-- ==== Sys2Proof/Word.lean ====
section
/-! DEFINITION. The value types of the block: bytes, infrared frame words, clock ticks (30_encoding.md
R57, 10_state.md R15), and the three enumerations (30_encoding.md R64 to R66). -/

namespace Sys2Proof

/-- One byte of an infrared frame, bits 7 down to 0 (R8). -/
abbrev Byte := BitVec 8

/-- A whole frame as one word, `buf[0]` in bits 31:24 (R57). -/
abbrev FrameWord := BitVec 32

/-- A ClockTick: `TICK_BITS` = 16 bits, unsigned, wrapping (R15, R6). -/
abbrev ClockTick := BitVec 16

/-- `TICK_BITS`, the width of a ClockTick (R6). -/
def tickBits : Nat := 16

/-- `TICK_MOD`, the wrap modulus (R6). -/
def tickMod : Nat := 65536

/-- `HALF_WRAP`, the largest safely comparable interval bound (R6). -/
def halfWrap : Nat := 32768

/-- Commanded motor state (R16). -/
inductive Direction where
  | neutral
  | up
  | down
deriving DecidableEq, Repr, Inhabited

/-- The sticky error (R17). `none` is the spec's None. -/
inductive ErrorKind where
  | none
  | endSwitchFault
  | rotationFault
deriving DecidableEq, Repr, Inhabited

/-- The two kinds `enter_error` takes: ErrorKind 1 and 2 (R69, R91, R135). -/
inductive FaultKind where
  | endSwitchFault
  | rotationFault
deriving DecidableEq, Repr, Inhabited

/-- The logical button of a reception (R66). -/
inductive Button where
  | on
  | off
  | up
  | down
  | set
  | unknown
deriving DecidableEq, Repr, Inhabited

/-- The four bytes of the infrared frame buffer, `buf[0]` first received (R24, R49). -/
structure FrameBuf where
  b0 : Byte
  b1 : Byte
  b2 : Byte
  b3 : Byte
deriving DecidableEq, Repr, Inhabited

end Sys2Proof
end

