-- ==== Sys2Proof/Config.lean ====
section
/-! DEFINITION. The configuration record of 00_scope.md R6, the moves of the four agents (10_state.md
R13), and the free values: which agent moves next, and what the cells R34 calls unspecified hold after
a reset during a run. -/

namespace Sys2Proof

/-- One row of `BUTTON_TABLE`: body bytes 2 and 3, and the button they select (R6, R59). -/
structure ButtonRow where
  upper : Byte
  lower : Byte
  button : Button
deriving DecidableEq, Repr

/-- The configuration record (R6). It is fixed before reset is released and written by nothing
(R29). A frequency is the rational `num / den`. -/
structure Config where
  /-- `TICK_HZ`, open, a positive rational. -/
  tickHzNum : Nat
  tickHzDen : Nat
  /-- `STALL_MS`, 1000 in the source. -/
  stallMs : Nat
  /-- `UP_BOUND`, −4 in the source. -/
  upBound : Int
  /-- `DOWN_BOUND`, 258 in the source. -/
  downBound : Int
  /-- `MONOFLOP_MS`, open, positive. -/
  monoflopMs : Nat
  /-- `F_REF_MHZ`, open, a positive rational. -/
  fRefNum : Nat
  fRefDen : Nat
  /-- `IR_BIT_PER_MHZ`, 127 in the source. -/
  irBitPerMhz : Nat
  /-- `IR_EOF_PER_MHZ`, 1500 in the source. -/
  irEofPerMhz : Nat
  /-- `IR_UNIT_CYCLES`, open, positive; no rule depends on it (R102). -/
  irUnitCycles : Nat
  /-- `IR_PREFIX`, 0xE0 and 0xD5 in the source. -/
  irPrefix0 : Byte
  irPrefix1 : Byte
  /-- `BUTTON_TABLE`. -/
  buttonTable : List ButtonRow
  /-- `POS_WIDTH`, 16. -/
  posWidth : Nat
  /-- `POS_RESET`, open, any integer in range. -/
  posReset : Int
  /-- `BOOT_HOMING`, open. -/
  bootHoming : Bool
  /-- `LED_FAST_BIT`, `LED_SLOW_BIT`, open. -/
  ledFastBit : Nat
  ledSlowBit : Nat
deriving DecidableEq, Repr

/-- The five pairs of R6 and R59. -/
def Config.sourceButtonTable : List ButtonRow :=
  [⟨0x04#8, 0xFB#8, .on⟩, ⟨0x44#8, 0xBB#8, .off⟩, ⟨0x06#8, 0xF9#8, .up⟩,
   ⟨0x26#8, 0xD9#8, .down⟩, ⟨0x50#8, 0xAF#8, .set⟩]

/-- The configuration State.reset holds: the source's values, and for the open parameters the values
95_test_vectors.md calls illustrative (DESIGN CHOICE, log 2; unsafe). -/
def Config.reference : Config where
  tickHzNum := 1000
  tickHzDen := 1
  stallMs := 1000
  upBound := -4
  downBound := 258
  monoflopMs := 5000
  fRefNum := 1
  fRefDen := 1
  irBitPerMhz := 127
  irEofPerMhz := 1500
  irUnitCycles := 1
  irPrefix0 := 0xE0#8
  irPrefix1 := 0xD5#8
  buttonTable := Config.sourceButtonTable
  posWidth := 16
  posReset := 0
  bootHoming := false
  ledFastBit := 7
  ledSlowBit := 10

/-- One step of one agent (R13). An input move sets the level of a port and the levels the environment
will present at the samples after the next one. -/
inductive Move where
  /-- The foreground executes the line at `fg_at` (R42). -/
  | foreground
  /-- One timer step (R73). -/
  | timer
  /-- The environment issues `CompEdge(level)` (R32). -/
  | compEdge (level : Bool)
  /-- The environment drives `ir_line` (R30, R166). -/
  | irLine (level : Bool) (next : List Bool)
  /-- The environment drives `end_switch_n` (R30, R166). -/
  | endSwitch (level : Bool) (next : List Bool)
  /-- The environment asserts reset (R154, R166). -/
  | reset
deriving DecidableEq, Repr, Inhabited

/-- The values of the cells whose reset value is unspecified (R34). -/
structure ResetDraws where
  tick : ClockTick
  ltt : ClockTick
  monoTrig : ClockTick
  lastLevel : Bool
deriving DecidableEq, Repr, Inhabited

/-- The draws State.reset holds (DESIGN CHOICE, log 3; unsafe). -/
def ResetDraws.zero : ResetDraws := ⟨0#16, 0#16, 0#16, false⟩

/-- FREE VALUE (log 6): the move taken when State prescribes none: "at any instant any agent may take
the next step" (R13). -/
opaque Config.freeMove : Nat → Move

/-- FREE VALUE (log 3): what a reset during a run leaves in the unspecified cells (R34, U4). -/
opaque Config.freeReset : Nat → ResetDraws

end Sys2Proof
end

