-- ==== Sys2Proof/Syntax.lean ====
section
/-! DEFINITION. The operations of the block, one constructor per row of spec/opcode_table.json: six IR32
commands (30_encoding.md R59) and twenty-three OP8 operations (R69). -/

namespace Sys2Proof

/-- One row of the opcode table. An operand that the row's bits carry is an argument here. An operand
the row's bits do not carry (two ticks, a duration, a duration sequence, four bytes) stands in the
argument cells of State. -/
inductive Instr where
  | irOn
  | irOff
  | irUp
  | irDown
  | irSet
  | irUnknown (w : FrameWord)
  | now
  | timerStep
  | wrapSub
  | ticksFor
  | setDirection (d : Direction)
  | goHome
  | onRotationTick
  | onEndswitchTriggered
  | checkStopConditions
  | upStopCondition
  | downStopCondition
  | error
  | enterError (k : FaultKind)
  | trigger
  | isActive
  | regularCheck
  | irReadFrame
  | irDecode
  | decodeButton
  | dispatch (b : Button)
  | onComparatorEdge (level : Bool)
  | loopIteration
  | ledValue
deriving DecidableEq, Repr

end Sys2Proof
end

