-- ==== Sys2Proof/WellFormed.lean ====
section
/-! DEFINITION. Which terms of Instr an encoding can stand for. The one check: `irUnknown` carries a word
that is none of the five known frames (30_encoding.md R59, R60). Every other argument has a type that
holds only the values R64 to R66 and R69 admit. -/

namespace Sys2Proof

/-- The five known frames: On, Off, Up, Down, Set (R59). -/
def knownFrames : List FrameWord :=
  [0xE0D504FB#32, 0xE0D544BB#32, 0xE0D506F9#32, 0xE0D526D9#32, 0xE0D550AF#32]

/-- An Unknown command is a word outside the five known frames (R60). -/
def Instr.wellFormed : Instr → Bool
  | .irUnknown w => !(knownFrames.contains w)
  | .irOn | .irOff | .irUp | .irDown | .irSet => true
  | .now | .timerStep | .wrapSub | .ticksFor => true
  | .setDirection _ | .goHome | .onRotationTick | .onEndswitchTriggered => true
  | .checkStopConditions | .upStopCondition | .downStopCondition => true
  | .error | .enterError _ => true
  | .trigger | .isActive | .regularCheck => true
  | .irReadFrame | .irDecode | .decodeButton => true
  | .dispatch _ | .onComparatorEdge _ | .loopIteration | .ledValue => true

end Sys2Proof
end

