-- ==== Sys2Proof/Decode.lean ====
section
/-! DEFINITION. The decoder from an operation's bytes to Instr, total and rejecting by name, and after
it the encoder (30_encoding.md R57 to R61, R64 to R66, R69). One byte is an OP8 operation, four bytes
are an IR32 frame in order of reception; nothing else is an operation. -/

namespace Sys2Proof

/-- Why bytes are no operation. -/
inductive DecodeError where
  /-- Neither one byte (OP8) nor four (IR32); a partial frame has no word (R62, R69). -/
  | wrongLength (n : Nat)
  /-- OP8 indices 23 to 31 name no operation (R69). -/
  | noSuchIndex (index : Nat)
  /-- The argument bits are outside the operation's type (R69). -/
  | badArgument (index arg : Nat)
deriving DecidableEq, Repr

/-! ## Fields -/

/-- `op[7:3]`, the index (R69). -/
def op8Index (b : Byte) : Nat := (b.extractLsb' 3 5).toNat

/-- `op[2:0]`, the argument (R69). -/
def op8Arg (b : Byte) : Nat := (b.extractLsb' 0 3).toNat

/-- `W = buf[0] ‖ buf[1] ‖ buf[2] ‖ buf[3]` (R49, R57). -/
def frameWord (b0 b1 b2 b3 : Byte) : FrameWord := b0 ++ b1 ++ b2 ++ b3

/-- The bytes of a frame word in order of reception (R57). -/
def frameBytes (w : FrameWord) : List Byte :=
  [w.extractLsb' 24 8, w.extractLsb' 16 8, w.extractLsb' 8 8, w.extractLsb' 0 8]

/-- Direction: Neutral 0, Up 1, Down 2; 3 is no value (R64). -/
def directionOfCode : Nat → Option Direction
  | 0 => some .neutral
  | 1 => some .up
  | 2 => some .down
  | _ => none

/-- The fault kinds of `enter_error`: EndSwitchFault 1, RotationFault 2; 0 and 3 are none (R65, R69). -/
def faultOfCode : Nat → Option FaultKind
  | 1 => some .endSwitchFault
  | 2 => some .rotationFault
  | _ => none

/-- Button: On 0, Off 1, Up 2, Down 3, Set 4, Unknown 5; 6 and 7 are no values (R66). -/
def buttonOfCode : Nat → Option Button
  | 0 => some .on
  | 1 => some .off
  | 2 => some .up
  | 3 => some .down
  | 4 => some .set
  | 5 => some .unknown
  | _ => none

/-- The comparator level: one bit, the two bits above it zero (R69). -/
def levelOfCode : Nat → Option Bool
  | 0 => some false
  | 1 => some true
  | _ => none

/-- An operation with no argument has `op[2:0] = 0` (R69). -/
def noArgOfCode : Nat → Option Unit
  | 0 => some ()
  | _ => none

/-- The operation an argument field selects, or the rejection that names the field. -/
def withArg {α : Type} (index arg : Nat) (field : Nat → Option α) (op : α → Instr) :
    Except DecodeError Instr :=
  match field arg with
  | some a => .ok (op a)
  | none => .error (.badArgument index arg)

/-! ## Decoding -/

/-- An OP8 byte (R69). -/
def decodeOp8 (b : Byte) : Except DecodeError Instr :=
  let arg := op8Arg b
  match op8Index b with
  | 0 => withArg 0 arg noArgOfCode fun _ => .now
  | 1 => withArg 1 arg noArgOfCode fun _ => .timerStep
  | 2 => withArg 2 arg noArgOfCode fun _ => .wrapSub
  | 3 => withArg 3 arg noArgOfCode fun _ => .ticksFor
  | 4 => withArg 4 arg directionOfCode .setDirection
  | 5 => withArg 5 arg noArgOfCode fun _ => .goHome
  | 6 => withArg 6 arg noArgOfCode fun _ => .onRotationTick
  | 7 => withArg 7 arg noArgOfCode fun _ => .onEndswitchTriggered
  | 8 => withArg 8 arg noArgOfCode fun _ => .checkStopConditions
  | 9 => withArg 9 arg noArgOfCode fun _ => .upStopCondition
  | 10 => withArg 10 arg noArgOfCode fun _ => .downStopCondition
  | 11 => withArg 11 arg noArgOfCode fun _ => .error
  | 12 => withArg 12 arg faultOfCode .enterError
  | 13 => withArg 13 arg noArgOfCode fun _ => .trigger
  | 14 => withArg 14 arg noArgOfCode fun _ => .isActive
  | 15 => withArg 15 arg noArgOfCode fun _ => .regularCheck
  | 16 => withArg 16 arg noArgOfCode fun _ => .irReadFrame
  | 17 => withArg 17 arg noArgOfCode fun _ => .irDecode
  | 18 => withArg 18 arg noArgOfCode fun _ => .decodeButton
  | 19 => withArg 19 arg buttonOfCode .dispatch
  | 20 => withArg 20 arg levelOfCode .onComparatorEdge
  | 21 => withArg 21 arg noArgOfCode fun _ => .loopIteration
  | 22 => withArg 22 arg noArgOfCode fun _ => .ledValue
  | n => .error (.noSuchIndex n)

/-- An IR32 word: the five known frames, and IR.UNKNOWN tried last (R59, R60, R71). -/
def decodeFrameWord (w : FrameWord) : Instr :=
  if w = 0xE0D504FB#32 then .irOn
  else if w = 0xE0D544BB#32 then .irOff
  else if w = 0xE0D506F9#32 then .irUp
  else if w = 0xE0D526D9#32 then .irDown
  else if w = 0xE0D550AF#32 then .irSet
  else .irUnknown w

/-- The operation an entry of a stimulus script carries. -/
def decode : List Byte → Except DecodeError Instr
  | [b] => decodeOp8 b
  | [b0, b1, b2, b3] => .ok (decodeFrameWord (frameWord b0 b1 b2 b3))
  | bs => .error (.wrongLength bs.length)

/-! ## Encoding -/

/-- Direction codes (R64). -/
def directionCode : Direction → Nat
  | .neutral => 0
  | .up => 1
  | .down => 2

/-- ErrorKind codes, the block's cause codes (R65, R135). -/
def errorCode : ErrorKind → Nat
  | .none => 0
  | .endSwitchFault => 1
  | .rotationFault => 2

/-- Fault kinds carry their ErrorKind's code (R65, R135). -/
def faultCode : FaultKind → Nat
  | .endSwitchFault => 1
  | .rotationFault => 2

/-- Button codes (R66). -/
def buttonCode : Button → Nat
  | .on => 0
  | .off => 1
  | .up => 2
  | .down => 3
  | .set => 4
  | .unknown => 5

/-- `op[7:3] ‖ op[2:0]` (R69). -/
def op8 (index arg : Nat) : List Byte := [BitVec.ofNat 5 index ++ BitVec.ofNat 3 arg]

/-- The bytes of an operation, written from R59 and R69. -/
def encode : Instr → List Byte
  | .irOn => [0xE0#8, 0xD5#8, 0x04#8, 0xFB#8]
  | .irOff => [0xE0#8, 0xD5#8, 0x44#8, 0xBB#8]
  | .irUp => [0xE0#8, 0xD5#8, 0x06#8, 0xF9#8]
  | .irDown => [0xE0#8, 0xD5#8, 0x26#8, 0xD9#8]
  | .irSet => [0xE0#8, 0xD5#8, 0x50#8, 0xAF#8]
  | .irUnknown w => frameBytes w
  | .now => op8 0 0
  | .timerStep => op8 1 0
  | .wrapSub => op8 2 0
  | .ticksFor => op8 3 0
  | .setDirection d => op8 4 (directionCode d)
  | .goHome => op8 5 0
  | .onRotationTick => op8 6 0
  | .onEndswitchTriggered => op8 7 0
  | .checkStopConditions => op8 8 0
  | .upStopCondition => op8 9 0
  | .downStopCondition => op8 10 0
  | .error => op8 11 0
  | .enterError k => op8 12 (faultCode k)
  | .trigger => op8 13 0
  | .isActive => op8 14 0
  | .regularCheck => op8 15 0
  | .irReadFrame => op8 16 0
  | .irDecode => op8 17 0
  | .decodeButton => op8 18 0
  | .dispatch b => op8 19 (buttonCode b)
  | .onComparatorEdge level => op8 20 (if level then 1 else 0)
  | .loopIteration => op8 21 0
  | .ledValue => op8 22 0

/-! ## The host's table words -/

/-- The low `8 * n` bits of `w` as `n` bytes, most significant byte first: a frame's first byte received
is its most significant (R49, R57), and an OP8 row is one byte. -/
def bytesOfTableWord : Nat → Nat → List Byte
  | 0, _ => []
  | n + 1, w => BitVec.ofNat 8 (w / 2 ^ (8 * n)) :: bytesOfTableWord n w

/-- The instruction the decoder reads from `nbits` bits `w` of an opcode-table row. -/
def decodeTableWord (nbits w : Nat) : Option Instr :=
  match decode (bytesOfTableWord ((nbits + 7) / 8) w) with
  | .ok i => some i
  | .error _ => none

end Sys2Proof
end

