-- ==== Sys2Proof/Machine/State.lean ====
section
/-! DEFINITION. The state of rc-screen CORE (10_state.md R14, R31, R34), the labels of the foreground's
lines (R26), the parameters of the step relation that the state carries, the reasons a step can stop,
and the state after reset. -/

namespace Sys2Proof.Machine

/-- The transients of one `ir_read_frame`: `buf[0..3]`, `nbits`, and the sample count `d` (R24, R101). -/
structure IrFrame where
  buf : FrameBuf
  nbits : Nat
  d : Nat
deriving DecidableEq, Repr

/-- `buf <- [00, 00, 00, 00]; nbits <- 0` (R101, line I0). -/
def IrFrame.zero : IrFrame := ⟨⟨0#8, 0#8, 0#8, 0#8⟩, 0, 0⟩

/-- The labels of the foreground's numbered lines (R26, R42). An argument is a value the operation was
given or has read at an earlier line of the same run. `d0` is the case of `dispatch`, which has no
number in the spec and touches nothing shared (R111). -/
inductive Line where
  /-- Boot (R156). -/
  | b1 | b2 | b3 | b4 | b5
  /-- `loop_iteration` (R125). -/
  | c1 | c2 | c3 | c4 | c5
  /-- `regular_check` (R97). -/
  | q1
  /-- `set_direction` (R83). -/
  | s1 (d : Direction) | s2 (d : Direction) | s3 (d : Direction)
  /-- `up_stop_condition` (R81). -/
  | u1 | u2 (e : Bool) | u3 (e : Bool) (p : Int)
  /-- `down_stop_condition` (R82). -/
  | w1 | w2 (e : Bool)
  /-- `apply` (R85); A4 stands only in the Up and Down forms. -/
  | a1 (d : Direction) | a2 (d : Direction) | a3 (d : Direction) | a4
  /-- `go_home` (R86). -/
  | g1 | g2 | g3 | g4 | g5
  /-- `on_endswitch_triggered` (R88). -/
  | n1
  /-- `check_stop_conditions` (R89). -/
  | k1 | k1a | k1b (r : ClockTick) | k2 | k2a | k3
  /-- `enter_error` (R91). -/
  | e1 (k : FaultKind) | e2 (k : FaultKind) | e3 (k : FaultKind) | e4 (k : FaultKind)
  /-- `trigger` (R95). -/
  | m1 | m2
  /-- `ir_read_frame` (R101). -/
  | i0 | i1 | i2 | i3 | i4
  /-- `dispatch` (R111). -/
  | d0 (b : Button)
deriving DecidableEq, Repr

/-- What the foreground does when an operation returns: an entry of the implicit call stack (R26). -/
inductive Cont where
  /-- Go on at a line. -/
  | line (l : Line)
  /-- The rest of line S2 of `set_direction(d)`: the returned stop condition decides (R83). -/
  | s2 (d : Direction)
  /-- The rest of line K3: the returned stop condition decides (R89). -/
  | k3
  /-- The rest of line C2: the returned frame is judged and dispatched (R125). -/
  | c2
  /-- The end of an operation run alone (R70): its value is recorded and the foreground is where it was. -/
  | alone (l : Line)
deriving DecidableEq, Repr

/-- A value an operation returns; `unit` where it returns nothing. -/
inductive Value where
  | unit
  | tick (t : ClockTick)
  | bool (b : Bool)
  | err (k : ErrorKind)
  | button (b : Button)
  | frame (n : Nat) (buf : FrameBuf)
deriving DecidableEq, Repr

/-- The spec's names of the foreground's lines, without the values a line has read: by one of these a script says
where in an iteration another agent steps (R26, R70). -/
inductive Label where
  | b1 | b2 | b3 | b4 | b5
  | c1 | c2 | c3 | c4 | c5
  | q1
  | s1 | s2 | s3
  | u1 | u2 | u3
  | w1 | w2
  | a1 | a2 | a3 | a4
  | g1 | g2 | g3 | g4 | g5
  | n1
  | k1 | k1a | k1b | k2 | k2a | k3
  | e1 | e2 | e3 | e4
  | m1 | m2
  | i0 | i1 | i2 | i3 | i4
  | d0
deriving DecidableEq, Repr

/-- The arguments of `op(args)` that no code bit carries (R69, R70). -/
inductive Operand where
  /-- Of `wrap_sub(a, b)`, `a` the later reading (R74). -/
  | ticks (later earlier : ClockTick)
  /-- Of `ticks_for(ms)` (R75). -/
  | ms (n : Nat)
  /-- Of `ir_decode(ds)` (R104). -/
  | durations (ds : List Nat)
  /-- Of `decode_button(buf)` (R107). -/
  | bytes (buf : FrameBuf)
deriving DecidableEq, Repr

/-- One entry of a stimulus script (R70). -/
inductive Stimulus where
  /-- A move of one agent. -/
  | move (m : Move)
  /-- An operation run alone, by its bytes. -/
  | code (bytes : List Byte)
  /-- The arguments of the operation that follows (log 8). -/
  | operand (o : Operand)
  /-- `ITER` with what the same line states: moves inside the iteration, each before the line it names (log 25). -/
  | iter (inside : List (Label × Move))
  /-- What is left of such an `ITER` once it has begun. -/
  | iterating (inside : List (Label × Move))
deriving DecidableEq, Repr

/-- The state. First the block's cells and ports (R14, R31, R34), then the parameters of the step
relation (configuration, input levels, event sequence, R14), then the model's own fields. -/
structure State where
  /-- Clock (R15). -/
  tick : ClockTick
  /-- Screen (R16 to R19). -/
  dir : Direction
  err : ErrorKind
  pos : Int
  ltt : ClockTick
  /-- Monoflop (R23). -/
  monoTrig : ClockTick
  monoActive : Bool
  /-- InfraredDecoder: none outside `ir_read_frame` (R24). -/
  ir : Option IrFrame
  /-- RotationEdgeHandler (R25). -/
  biasReg : Bool
  lastLevel : Bool
  /-- The foreground's next line and its implicit call stack (R26). -/
  fgAt : Line
  callStack : List Cont
  /-- Output registers (R31). -/
  motorUp : Bool
  motorDown : Bool
  bias : Bool
  statusLed : Bool
  /-- Whether boot has enabled the edge interrupt (R34, R144). -/
  irqEnabled : Bool
  /-- The configuration (R6, R29). -/
  cfg : Config
  /-- Level of `ir_line`, and the levels at the samples after the next (R30, R35). -/
  irLine : Bool
  irNext : List Bool
  /-- Level of `end_switch_n`, and the levels at the samples after the next (R30, R35). -/
  endSwitchN : Bool
  swNext : List Bool
  /-- The stimulus script still to be run (R70). -/
  stimuli : List Stimulus
  /-- The model's own: how many free values have been drawn (log 6). -/
  draws : Nat
  /-- The model's own: operands of operations run alone (log 8). -/
  argLater : ClockTick
  argEarlier : ClockTick
  argMs : Nat
  argDs : List Nat
  argBuf : FrameBuf
  /-- The model's own: the value the last operation run alone returned (log 8). -/
  ret : Value
deriving DecidableEq, Repr

/-- The block never stops with a fault: its faults are states, it has no trap, and the loop never exits
(R131, R133, R134). Nothing raises one, so the type has no constructor. -/
inductive Fault where
deriving DecidableEq, Repr

/-- Why a step has no meaning. -/
inductive Refusal where
  /-- Raised by an arm of exec whose instruction has no meaning yet. Safe. -/
  | notModelled (mnemonic : String)
  /-- Raised by a write of `pos` outside the `POS_WIDTH`-bit range: the spec gives the step no meaning
  (R22, U3). Safe. -/
  | posOutOfRange
  /-- Raised by `ticks_for` when the count is `HALF_WRAP` or more (R75, U9). Safe. -/
  | ticksOutOfRange
  /-- Raised by every step under an ill-formed configuration (R7, U8). Safe. -/
  | illFormedConfig
  /-- Raised by a step whose script entry names no operation (R69, U12). Safe. -/
  | notAnOperation (e : DecodeError)
deriving DecidableEq, Repr

/-- The state after reset for a configuration and the draws of the unspecified cells (R34, R154): the
foreground at line B1, the edge interrupt not enabled. The input levels and the model's own fields are
no cells of the block; their values are log 5, log 6 and log 8. -/
def State.resetWith (cfg : Config) (dr : ResetDraws) : State where
  tick := dr.tick
  dir := .neutral
  err := .none
  pos := cfg.posReset
  ltt := dr.ltt
  monoTrig := dr.monoTrig
  monoActive := false
  ir := none
  biasReg := false
  lastLevel := dr.lastLevel
  fgAt := .b1
  callStack := []
  motorUp := false
  motorDown := false
  bias := false
  statusLed := false
  irqEnabled := false
  cfg := cfg
  irLine := true
  irNext := []
  endSwitchN := true
  swNext := []
  stimuli := []
  draws := 0
  argLater := 0#16
  argEarlier := 0#16
  argMs := 0
  argDs := []
  argBuf := ⟨0#8, 0#8, 0#8, 0#8⟩
  ret := .unit

/-- The machine right after reset, with the reference configuration (log 2) and draws (log 3). -/
def State.reset : State := State.resetWith Config.reference ResetDraws.zero

/-- The points between two loop iterations (R165). -/
def State.atObservationPoint (s : State) : Bool := s.fgAt = .c1

end Sys2Proof.Machine
end

