-- ==== Sys2Proof/Machine/Params.lean ====
section
/-! DEFINITION. What follows from the configuration: the duration-to-ticks conversion (40_clock.md R75),
the thresholds (00_scope.md R6, 43_infrared.md R103) and when a configuration is well formed (R6, R7). -/

namespace Sys2Proof.Machine

/-- `floor(ms × TICK_HZ / 1000)` in exact arithmetic (R75). -/
def ticksRaw (cfg : Config) (ms : Nat) : Nat := ms * cfg.tickHzNum / (1000 * cfg.tickHzDen)

/-- `ticks_for(ms)`: no value at `HALF_WRAP` or more (R75). -/
def ticksFor (cfg : Config) (ms : Nat) : Option ClockTick :=
  if ticksRaw cfg ms < halfWrap then some (BitVec.ofNat 16 (ticksRaw cfg ms)) else none

/-- `STALL_TICKS` (R6). -/
def stallTicks (cfg : Config) : Nat := ticksRaw cfg cfg.stallMs

/-- `MONO_TICKS` (R6, R94). -/
def monoTicks (cfg : Config) : Nat := ticksRaw cfg cfg.monoflopMs

/-- `IR_T_BIT`, rounded down (R103). -/
def irTBit (cfg : Config) : Nat := cfg.irBitPerMhz * cfg.fRefNum / cfg.fRefDen

/-- `IR_T_EOF`, rounded down (R103). -/
def irTEof (cfg : Config) : Nat := cfg.irEofPerMhz * cfg.fRefNum / cfg.fRefDen

/-- `−2^(POS_WIDTH−1) ≤ p < 2^(POS_WIDTH−1)` (R22). -/
def posInRange (cfg : Config) (p : Int) : Bool :=
  decide (-(2 ^ (cfg.posWidth - 1)) ≤ p) && decide (p < 2 ^ (cfg.posWidth - 1))

/-- The four clauses of R7. -/
def thresholdsOk (cfg : Config) : Bool :=
  decide (0 < stallTicks cfg) && decide (stallTicks cfg < halfWrap) &&
  decide (0 < monoTicks cfg) && decide (monoTicks cfg < halfWrap) &&
  decide (0 < irTBit cfg) && decide (irTBit cfg < irTEof cfg) &&
  decide (cfg.upBound < 0) && decide (0 < cfg.downBound)

/-- The constraints R6 puts on the open parameters. -/
def openParamsOk (cfg : Config) : Bool :=
  decide (0 < cfg.tickHzNum) && decide (0 < cfg.tickHzDen) && decide (0 < cfg.monoflopMs) &&
  decide (0 < cfg.fRefNum) && decide (0 < cfg.fRefDen) && decide (0 < cfg.irUnitCycles) &&
  decide (0 < cfg.posWidth) && posInRange cfg cfg.posReset &&
  decide (cfg.ledFastBit < cfg.ledSlowBit) && decide (cfg.ledSlowBit < tickBits)

/-- A well-formed configuration (R6, R7). -/
def configOk (cfg : Config) : Bool := thresholdsOk cfg && openParamsOk cfg

end Sys2Proof.Machine
end

