-- ==== Sys2Proof/Machine/Ops.lean ====
section
/-! DEFINITION. The named operations over ports, cells and the foreground's place (20_memory.md R35 to R38,
R46; 10_state.md R26), the motor driver (41_screen.md R85), and fault entry and fault return
(60_exceptions.md R140, R141). -/

namespace Sys2Proof.Machine

/-- What a step answers. -/
abbrev Result := Host.Outcome State Fault Refusal

/-- Go on from a next state; keep a stop. -/
def andThen (o : Result) (f : State → Result) : Result :=
  match o with
  | .next s => f s
  | .fault r => .fault r
  | .refused r => .refused r

/-! ## Ports -/

/-- `PinRead(ir_line)`: the present level; after the sample the environment presents its next level, or
leaves the port as it is (R35, log 4). -/
def readIrLine (s : State) : Bool × State :=
  (s.irLine, { s with irLine := s.irNext.headD s.irLine, irNext := s.irNext.tail })

/-- `engaged()` is `PinRead(end_switch_n) = 0` (R30, R35, log 4). -/
def readEngaged (s : State) : Bool × State :=
  (!s.endSwitchN, { s with endSwitchN := s.swNext.headD s.endSwitchN, swNext := s.swNext.tail })

/-- The output ports (R31). -/
inductive OutPort where
  | motorUp
  | motorDown
  | bias
  | statusLed
deriving DecidableEq, Repr

/-- `PinWrite(p, v)` (R36). -/
def pinWrite (p : OutPort) (v : Bool) (s : State) : State :=
  match p with
  | .motorUp => { s with motorUp := v }
  | .motorDown => { s with motorDown := v }
  | .bias => { s with bias := v }
  | .statusLed => { s with statusLed := v }

/-! ## Cells -/

/-- `CellWrite(dir, d)` (R38). -/
def writeDir (d : Direction) (s : State) : State := { s with dir := d }

/-- `err <- k`. -/
def writeErr (k : ErrorKind) (s : State) : State := { s with err := k }

/-- `CellWrite(pos, p)`, increment and decrement (R38, R46): a write outside the range of `POS_WIDTH`
bits has no meaning (R22). -/
def writePos (p : Int) (s : State) : Result :=
  if posInRange s.cfg p then .next { s with pos := p } else .refused .posOutOfRange

/-- `now()` (R72). -/
def now (s : State) : ClockTick := s.tick

/-- `stamp(ltt)`: `ltt <- now()` as one step (R46). -/
def stampLtt (s : State) : State := { s with ltt := now s }

/-- `mono_trig <- now()` as one step (R42). -/
def stampMono (s : State) : State := { s with monoTrig := now s }

/-- `mono_active <- b`. -/
def writeActive (b : Bool) (s : State) : State := { s with monoActive := b }

/-! ## The foreground's place -/

/-- `fg_at <- l` (R26). -/
def goto (l : Line) (s : State) : State := { s with fgAt := l }

/-- Go to the first line of a called operation, with what to do on its return (R26). -/
def call (l : Line) (c : Cont) (s : State) : State :=
  { s with fgAt := l, callStack := c :: s.callStack }

/-! ## The motor driver -/

/-- The pin an energizing `apply(d)` de-energizes at A1, and Neutral's first pin (R85). -/
def applyA1 (d : Direction) (s : State) : State :=
  match d with
  | .neutral => pinWrite .motorUp false s
  | .up => pinWrite .motorDown false s
  | .down => pinWrite .motorUp false s

/-- Line A2: energize the one pin, or de-energize Neutral's second (R85). -/
def applyA2 (d : Direction) (s : State) : State :=
  match d with
  | .neutral => pinWrite .motorDown false s
  | .up => pinWrite .motorUp true s
  | .down => pinWrite .motorDown true s

/-- `apply(d)`: A1, A2, A3, and for Up and Down the stamp A4 (R85). -/
def applyDirection (d : Direction) (s : State) : State :=
  let s3 := writeDir d (applyA2 d (applyA1 d s))
  match d with
  | .neutral => s3
  | .up => stampLtt s3
  | .down => stampLtt s3

/-! ## Fault entry and return -/

/-- The ErrorKind a fault kind is recorded as (R65, R135). -/
def errOfFault : FaultKind → ErrorKind
  | .endSwitchFault => .endSwitchFault
  | .rotationFault => .rotationFault

/-- `enter_error(k)`: Neutral first, then the record; nothing is saved and control goes nowhere (R91, R134,
R140). -/
def takeFault (k : FaultKind) (s : State) : State := writeErr (errOfFault k) (applyDirection .neutral s)

/-- Fault return, lines G1 and G2 of `go_home`: refused in EndSwitchFault, else the error is cleared
(R86, R141, R142). -/
def leaveFault (s : State) : Option State :=
  if s.err = .endSwitchFault then none else some (writeErr .none s)

end Sys2Proof.Machine
end

