-- ==== Sys2Proof/Machine/Operands.lean ====
section
/-! DEFINITION. Operands of operations run alone and the value they return (30_encoding.md R68 to R70, log 8),
and the waveform a duration sequence stands for (R54, R70, R71). -/

namespace Sys2Proof.Machine

/-- An operation run alone returns `v`. -/
def withRet (v : Value) (s : State) : State := { s with ret := v }

/-- An operation run alone has ended and returned nothing. -/
def returnsUnit (o : Result) : Result := andThen o fun s => .next (withRet .unit s)

/-- The arguments of `op(args)` into the operand cells (R70). -/
def writeOperand (o : Operand) (s : State) : State :=
  match o with
  | .ticks later earlier => { s with argLater := later, argEarlier := earlier }
  | .ms n => { s with argMs := n }
  | .durations ds => { s with argDs := ds }
  | .bytes buf => { s with argBuf := buf }

/-- The two ClockTicks of `wrap_sub`, the later first (R74). -/
def tickOperands (s : State) : ClockTick × ClockTick := (s.argLater, s.argEarlier)

/-- The samples of one high phase of duration `d`, as `ir_read_frame` takes them: one that ends the low
phase at I1, `d` at I3, and the low one that ends the phase (R54, R101). -/
def phaseSamples (d : Nat) : List Bool := true :: (List.replicate d true ++ [false])

/-- The samples after the low one that starts a reception: the high phases in order, then idle (R70, `IRD`). -/
def waveSamples (ds : List Nat) : List Bool := ds.flatMap phaseSamples ++ [true]

/-- `dk` of R71: `IR_T_BIT` for a 0, `IR_T_BIT + 1` for a 1. -/
def bitDuration (cfg : Config) (b : Bool) : Nat := if b then irTBit cfg + 1 else irTBit cfg

/-- `d31 ... d0` of R71: the durations of a word, bit 31 first. -/
def frameDurations (cfg : Config) (w : FrameWord) : List Nat :=
  (List.range 32).map fun k => bitDuration cfg (w.getLsbD (31 - k))

end Sys2Proof.Machine
end

