-- ==== Sys2Proof/Machine/Flags.lean ====
section
/-! DEFINITION. The conditions the block computes: wrap-safe elapsed time (40_clock.md R74, R76), the two
stop conditions (41_screen.md R81, R82), the two overrun and stall tests (R89), the latch's expiry
(42_monoflop.md R97) and the LED's value (46_control_loop.md R130). -/

namespace Sys2Proof.Machine

/-- `wrap_sub(a, b)`, `a` the later reading: `(a − b) mod TICK_MOD` (R74). -/
def wrapSub (later earlier : ClockTick) : ClockTick := later - earlier

/-- `wrap_sub(t, r) > threshold`: expired (R76). -/
def expired (t r : ClockTick) (threshold : Nat) : Bool := decide (threshold < (wrapSub t r).toNat)

/-- `err ≠ None`, lines U1 and W1 (R81, R82). -/
def errorPresent (s : State) : Bool := s.err != .none

/-- `up_stop_condition()`: error present, or `pos ≤ UP_BOUND`, or the switch sampled engaged; all three
are evaluated, in this order (R81). -/
def upStopCondition (s : State) : Bool × State :=
  let r := readEngaged s
  (errorPresent s || decide (s.pos ≤ s.cfg.upBound) || r.1, r.2)

/-- `down_stop_condition()`: error present, or `pos ≥ DOWN_BOUND` (R82). -/
def downStopCondition (s : State) : Bool := errorPresent s || decide (s.cfg.downBound ≤ s.pos)

/-- The stall test of line K1b (R89). -/
def stalled (s : State) : Bool := expired (now s) s.ltt (stallTicks s.cfg)

/-- The overrun test of line K2a (R89). -/
def overrun (s : State) : Bool := decide (s.pos ≤ s.cfg.upBound)

/-- The expiry test of line Q1 (R97). -/
def windowOver (s : State) : Bool := expired (now s) s.monoTrig (monoTicks s.cfg)

/-- `led_value()` (R130). -/
def ledValue (s : State) : Bool :=
  match s.err with
  | .rotationFault => (now s).getLsbD s.cfg.ledFastBit
  | .endSwitchFault => (now s).getLsbD s.cfg.ledSlowBit
  | .none => s.monoActive

end Sys2Proof.Machine
end

