-- ==== Sys2Proof/Machine/Clock.lean ====
section
/-! DEFINITION. The Clock's operations (40_clock.md): `now`, `timer_step`, `wrap_sub`, `ticks_for`. -/

namespace Sys2Proof.Machine

/-- `timer_step()`: `tick <- (tick + 1) mod TICK_MOD` (R73). -/
def timerStep (s : State) : State := { s with tick := s.tick + 1#16 }

/-- `now` (R72). -/
def execNow (s : State) : Result := .next (withRet (.tick (now s)) s)

/-- `timer_step` (R73). -/
def execTimerStep (s : State) : Result := .next (timerStep s)

/-- `wrap_sub` (R74). -/
def execWrapSub (s : State) : Result :=
  .next (withRet (.tick (wrapSub (tickOperands s).1 (tickOperands s).2)) s)

/-- `ticks_for` (R75): refused where the count is no meaningful interval. -/
def execTicksFor (s : State) : Result :=
  match ticksFor s.cfg s.argMs with
  | some t => .next (withRet (.tick t) s)
  | none => .refused .ticksOutOfRange

end Sys2Proof.Machine
end

