-- ==== Sys2Proof/Machine/Screen.lean ====
section
/-! DEFINITION. The Screen's operations (41_screen.md), each run to its end with no other agent stepping
inside it (30_encoding.md R70). Machine/Foreground.lean gives the same operations line by line. -/

namespace Sys2Proof.Machine

/-- `set_direction(d)` (R83, R84). -/
def setDirection (d : Direction) (s : State) : State :=
  if s.dir = d then s
  else
    match d with
    | .neutral => applyDirection .neutral s
    | .up =>
      let r := upStopCondition s
      if r.1 then r.2 else applyDirection .up r.2
    | .down => if downStopCondition s then s else applyDirection .down s

/-- `go_home()` (R86). -/
def goHome (s : State) : Result :=
  match leaveFault s with
  | none => .next s
  | some s2 =>
    let r := readEngaged s2
    if r.1 then .next r.2
    else andThen (writePos s.cfg.downBound r.2) fun s4 => .next (setDirection .up s4)

/-- Line T1 of `on_rotation_tick` (R87). -/
def countTick (s : State) : Result :=
  match s.dir with
  | .down => writePos (s.pos + 1) s
  | .up => writePos (s.pos - 1) s
  | .neutral => .next s

/-- `on_rotation_tick()`, one atomic step; the stamp is made in all three cases (R87). -/
def onRotationTick (s : State) : Result := andThen (countTick s) fun s1 => .next (stampLtt s1)

/-- `on_endswitch_triggered()` (R88). -/
def onEndswitchTriggered (s : State) : Result := if s.dir = .down then .next s else writePos 0 s

/-- Step 1 of `check_stop_conditions` (R89, lines K1 to K1b). -/
def checkStall (s : State) : State :=
  if s.dir = .neutral then s else if stalled s then takeFault .rotationFault s else s

/-- Step 2 of `check_stop_conditions` (R89, lines K2, K2a). -/
def checkOverrun (s : State) : State :=
  if s.dir = .up then (if overrun s then takeFault .endSwitchFault s else s) else s

/-- Step 3 of `check_stop_conditions` (R89, line K3). -/
def checkLimits (s : State) : State :=
  match s.dir with
  | .up =>
    let r := upStopCondition s
    if r.1 then applyDirection .neutral r.2 else r.2
  | .down => if downStopCondition s then applyDirection .neutral s else s
  | .neutral => s

/-- `check_stop_conditions()`: the three steps in sequence, each testing `dir` afresh (R89). -/
def checkStopConditions (s : State) : State := checkLimits (checkOverrun (checkStall s))

/-- `set_direction` (R83). -/
def execSetDirection (d : Direction) (s : State) : Result := returnsUnit (.next (setDirection d s))

/-- `go_home` (R86). -/
def execGoHome (s : State) : Result := returnsUnit (goHome s)

/-- `on_rotation_tick` (R87): interrupt context, which returns nothing to the foreground. -/
def execOnRotationTick (s : State) : Result := onRotationTick s

/-- `on_endswitch_triggered` (R88). -/
def execOnEndswitchTriggered (s : State) : Result := returnsUnit (onEndswitchTriggered s)

/-- `check_stop_conditions` (R89). -/
def execCheckStopConditions (s : State) : Result := returnsUnit (.next (checkStopConditions s))

/-- `up_stop_condition` (R81). -/
def execUpStopCondition (s : State) : Result :=
  let r := upStopCondition s
  .next (withRet (.bool r.1) r.2)

/-- `down_stop_condition` (R82). -/
def execDownStopCondition (s : State) : Result := .next (withRet (.bool (downStopCondition s)) s)

/-- `error` (R90). -/
def execError (s : State) : Result := .next (withRet (.err s.err) s)

/-- `enter_error` (R91). -/
def execEnterError (k : FaultKind) (s : State) : Result := returnsUnit (.next (takeFault k s))

end Sys2Proof.Machine
end

