-- ==== Sys2Proof/Machine/EdgeHandler.lean ====
section
/-! DEFINITION. The RotationEdgeHandler (45_edge_handler.md) and the delivery of the edge interrupt
(60_exceptions.md R144, R145). -/

namespace Sys2Proof.Machine

/-- Line H1: toggle the bias register and its port (R120, R122). -/
def toggleBias (s : State) : State := pinWrite .bias (!s.biasReg) { s with biasReg := !s.biasReg }

/-- `on_comparator_edge(level)`, one atomic step: toggle, and forward a genuine edge as a tick (R120, R121). -/
def onComparatorEdge (level : Bool) (s : State) : Result :=
  let s1 := toggleBias s
  if level = s1.lastLevel then .next s1 else onRotationTick { s1 with lastLevel := level }

/-- A `CompEdge(level)` of the environment: one handler run once boot has enabled the interrupt; before that
it is no event of the block (R119, R144, U14, log 12). Nothing of the foreground is saved or touched
(R145). -/
def deliverEdge (level : Bool) (s : State) : Result :=
  if s.irqEnabled then onComparatorEdge level s else .next s

/-- `on_comparator_edge` (R120). -/
def execOnComparatorEdge (level : Bool) (s : State) : Result := onComparatorEdge level s

end Sys2Proof.Machine
end

