-- ==== Sys2Proof/Machine/Monoflop.lean ====
section
/-! DEFINITION. The Monoflop's operations (42_monoflop.md): `trigger`, `is_active`, `regular_check`. -/

namespace Sys2Proof.Machine

/-- `trigger()` (R95). -/
def trigger (s : State) : State := writeActive true (stampMono s)

/-- `is_active()` (R96). -/
def isActive (s : State) : Bool := s.monoActive

/-- `regular_check()` (R97). -/
def regularCheck (s : State) : State :=
  if isActive s && windowOver s then writeActive false s else s

/-- `trigger` (R95). -/
def execTrigger (s : State) : Result := returnsUnit (.next (trigger s))

/-- `is_active` (R96). -/
def execIsActive (s : State) : Result := .next (withRet (.bool (isActive s)) s)

/-- `regular_check` (R97). -/
def execRegularCheck (s : State) : Result := returnsUnit (.next (regularCheck s))

end Sys2Proof.Machine
end

