-- ==== Sys2Proof/Machine/Dispatcher.lean ====
section
/-! DEFINITION. The Dispatcher (44_dispatcher.md): one command per button, and the six IR32 operations. -/

namespace Sys2Proof.Machine

/-- On: home out of a RotationFault, else command Down and open the window (R112). -/
def commandOn (s : State) : Result :=
  if s.err = .rotationFault then goHome s else .next (trigger (setDirection .down s))

/-- Off: command Up and open the window (R113). -/
def commandOff (s : State) : Result := .next (trigger (setDirection .up s))

/-- Up: inside the window command Up, else Neutral (R114). -/
def commandUp (s : State) : Result :=
  .next (if isActive s then setDirection .up s else setDirection .neutral s)

/-- Down: inside the window command Down, else Neutral (R115). -/
def commandDown (s : State) : Result :=
  .next (if isActive s then setDirection .down s else setDirection .neutral s)

/-- Set: nothing (R116). -/
def commandSet (s : State) : Result := .next s

/-- Unknown: command Neutral (R117). -/
def commandUnknown (s : State) : Result := .next (setDirection .neutral s)

/-- `dispatch(b)` (R111). -/
def dispatch (b : Button) (s : State) : Result :=
  match b with
  | .on => commandOn s
  | .off => commandOff s
  | .up => commandUp s
  | .down => commandDown s
  | .set => commandSet s
  | .unknown => commandUnknown s

/-- `IR.ON` (R112). -/
def execIrOn (s : State) : Result := returnsUnit (commandOn s)

/-- `IR.OFF` (R113). -/
def execIrOff (s : State) : Result := returnsUnit (commandOff s)

/-- `IR.UP` (R114). -/
def execIrUp (s : State) : Result := returnsUnit (commandUp s)

/-- `IR.DOWN` (R115). -/
def execIrDown (s : State) : Result := returnsUnit (commandDown s)

/-- `IR.SET` (R116). -/
def execIrSet (s : State) : Result := returnsUnit (commandSet s)

/-- `IR.UNKNOWN` (R117): every word but the five has this one effect. -/
def execIrUnknown (_w : FrameWord) (s : State) : Result := returnsUnit (commandUnknown s)

/-- `dispatch` (R111). -/
def execDispatch (b : Button) (s : State) : Result := returnsUnit (dispatch b s)

end Sys2Proof.Machine
end

