-- ==== Sys2Proof/Machine/Infrared.lean ====
section
/-! DEFINITION. The InfraredDecoder (43_infrared.md): a bit shifted into the frame, the decoding function, the
blocking front end over the samples the environment presents, and the button of a frame. -/

namespace Sys2Proof.Machine

/-- `buf[i] <- buf[i] OR v`; an index past 3 is never used (R104). -/
def orByte (i : Nat) (v : Byte) (b : FrameBuf) : FrameBuf :=
  match i with
  | 0 => { b with b0 := b.b0 ||| v }
  | 1 => { b with b1 := b.b1 ||| v }
  | 2 => { b with b2 := b.b2 ||| v }
  | 3 => { b with b3 := b.b3 ||| v }
  | _ => b

/-- `bit << j` (R104). -/
def bitMask (bit : Bool) (j : Nat) : Byte := if bit then 1#8 <<< j else 0#8

/-- `shift_in(d)`: a 1 iff `d > IR_T_BIT`, most significant bit first (R55, R104). The guard
`nbits < 32` of its callers stands here: past 32 bits the phase is discarded. -/
def shiftIn (tBit d : Nat) (f : IrFrame) : IrFrame :=
  if f.nbits < 32 then
    { f with
      buf := orByte (f.nbits / 8) (bitMask (decide (tBit < d)) (7 - f.nbits % 8)) f.buf
      nbits := f.nbits + 1 }
  else f

/-- The loop of `ir_decode` from a frame in progress: stop at the first over-long phase (R56, R104). -/
def decodeFrom (tBit tEof : Nat) : List Nat → IrFrame → IrFrame
  | [], f => f
  | d :: ds, f => if tEof < d then f else decodeFrom tBit tEof ds (shiftIn tBit d f)

/-- What a reception returns: the count of complete bytes, and the buffer (R105). -/
def frameValue (f : IrFrame) : Nat × FrameBuf := (f.nbits / 8, f.buf)

/-- `ir_decode(ds)` (R104). -/
def irDecode (cfg : Config) (ds : List Nat) : Nat × FrameBuf :=
  frameValue (decodeFrom (irTBit cfg) (irTEof cfg) ds IrFrame.zero)

/-- `decode_button(buf)` (R58, R107): the prefix, then the table. -/
def decodeButton (cfg : Config) (buf : FrameBuf) : Button :=
  if buf.b0 = cfg.irPrefix0 ∧ buf.b1 = cfg.irPrefix1 then
    match cfg.buttonTable.find? (fun r => decide (r.upper = buf.b2) && decide (r.lower = buf.b3)) with
    | some r => r.button
    | none => .unknown
  else .unknown

/-- `button_of(n, buf)`: anything but four bytes is Unknown (R62, R106). -/
def buttonOf (cfg : Config) (n : Nat) (buf : FrameBuf) : Button :=
  if n = 4 then decodeButton cfg buf else .unknown

/-- How far a read got on the samples the environment has fixed. -/
structure IrScan where
  /-- The line went idle and the read returned; else the line stays low and the read waits at I1. -/
  returned : Bool
  frame : IrFrame
  /-- The port's level and the levels still to be presented. -/
  level : Bool
  rest : List Bool
deriving DecidableEq, Repr

/-- Lines I1 to I4 of `ir_read_frame` over the present level and the levels that follow it, `inHigh`
telling whether the foreground is in the loop of I3 (R101). When the list runs out the port keeps its
level: high, it is idle and the read returns; low, the read waits for ever (R110). -/
def irScan (tBit tEof : Nat) : Bool → IrFrame → Bool → List Bool → IrScan
  | false, f, false, [] => ⟨false, f, false, []⟩
  | false, f, false, x :: xs => irScan tBit tEof false f x xs
  | false, f, true, [] => ⟨true, { f with d := tEof + 1 }, true, []⟩
  | false, f, true, x :: xs => irScan tBit tEof true { f with d := 0 } x xs
  | true, f, level, [] =>
    if tEof < f.d then ⟨true, f, level, []⟩
    else if level then ⟨true, { f with d := tEof + 1 }, true, []⟩
    else ⟨false, shiftIn tBit f.d f, false, []⟩
  | true, f, level, x :: xs =>
    if tEof < f.d then ⟨true, f, level, x :: xs⟩
    else if level then irScan tBit tEof true { f with d := f.d + 1 } x xs
    else irScan tBit tEof false (shiftIn tBit f.d f) x xs

/-- The read from line I0 on the state's samples. -/
def scanLine (s : State) : IrScan :=
  irScan (irTBit s.cfg) (irTEof s.cfg) false IrFrame.zero s.irLine s.irNext

/-- The port after a read. -/
def afterScan (r : IrScan) (s : State) : State := { s with irLine := r.level, irNext := r.rest }

/-- A read that waits: the foreground stands at line I1 with what it has received, and `conts` tells what
is to follow a return that only the environment can bring about (R110, U7). -/
def parkInRead (conts : List Cont) (f : IrFrame) (s : State) : State :=
  { s with fgAt := .i1, callStack := conts ++ s.callStack, ir := some f }

/-- `ir_read_frame` (R101). -/
def execIrReadFrame (s : State) : Result :=
  let r := scanLine s
  let s1 := afterScan r s
  if r.returned then
    .next (withRet (.frame (frameValue r.frame).1 (frameValue r.frame).2) { s1 with ir := none })
  else .next (parkInRead [.alone s.fgAt] r.frame s1)

/-- `ir_decode` (R104). -/
def execIrDecode (s : State) : Result :=
  let v := irDecode s.cfg s.argDs
  .next (withRet (.frame v.1 v.2) s)

/-- `decode_button` (R107). -/
def execDecodeButton (s : State) : Result := .next (withRet (.button (decodeButton s.cfg s.argBuf)) s)

end Sys2Proof.Machine
end

