-- ==== Sys2Proof/Machine/ControlLoop.lean ====
section
/-! DEFINITION. The Control loop and the status LED (46_control_loop.md): one whole `loop_iteration` run with
no other agent stepping inside it (30_encoding.md R70, `ITER`). -/

namespace Sys2Proof.Machine

/-- Line C5 (R130). -/
def driveLed (s : State) : State := pinWrite .statusLed (ledValue s) s

/-- Line C3 (R127). -/
def pollEndSwitch (s : State) : Result :=
  let r := readEngaged s
  if r.1 then onEndswitchTriggered r.2 else .next r.2

/-- Lines C3 to C5 (R125). -/
def loopTail (s : State) : Result :=
  andThen (pollEndSwitch s) fun s3 => .next (driveLed (checkStopConditions s3))

/-- `loop_iteration` (R125, R126): C1, the infrared poll C2, then C3 to C5. A read that never returns
leaves the foreground in it (R110). -/
def execLoopIteration (s : State) : Result :=
  let p := readIrLine (regularCheck s)
  if p.1 then returnsUnit (loopTail p.2)
  else
    let r := scanLine p.2
    let s2 := afterScan r p.2
    if r.returned then
      returnsUnit (andThen
        (dispatch (buttonOf s.cfg (frameValue r.frame).1 (frameValue r.frame).2) { s2 with ir := none })
        loopTail)
    else .next (parkInRead [.c2, .alone s.fgAt] r.frame s2)

/-- `led_value` (R130). -/
def execLedValue (s : State) : Result := .next (withRet (.bool (ledValue s)) s)

end Sys2Proof.Machine
end

