-- ==== Sys2Proof/Machine/Foreground.lean ====
section
/-! DEFINITION. The foreground one line at a time (10_state.md R26, 20_memory.md R42): boot
(70_reset_and_hazards.md R156), the control loop and every operation it calls, with the implicit call
stack. Between two lines any other agent may step. -/

namespace Sys2Proof.Machine

/-- The button a returned frame is dispatched as (R106). -/
def buttonOfValue (cfg : Config) : Value → Button
  | .frame n buf => buttonOf cfg n buf
  | _ => .unknown

/-- Return `v` from the operation in progress (R26). A returned stop condition that holds ends
`set_direction` at S2 and acts at K3; a returned frame is dispatched before C3; with no caller left the
loop starts again at C1. -/
def returnTo (v : Value) : List Cont → State → State
  | [], s => { s with fgAt := .c1, callStack := [] }
  | .line l :: st, s => { s with fgAt := l, callStack := st }
  | .alone l :: st, s => { s with fgAt := l, callStack := st, ret := v }
  | .s2 d :: st, s =>
    if v = .bool true then returnTo .unit st s else { s with fgAt := .s3 d, callStack := st }
  | .k3 :: st, s =>
    if v = .bool true then { s with fgAt := .a1 .neutral, callStack := st } else returnTo .unit st s
  | .c2 :: st, s => { s with fgAt := .d0 (buttonOfValue s.cfg v), callStack := .line .c3 :: st }

/-- Return from the operation in progress. -/
def opReturn (v : Value) (s : State) : State := returnTo v s.callStack s

/-- The spec's name of a line (R26). -/
def labelOf : Line → Label
  | .b1 => .b1
  | .b2 => .b2
  | .b3 => .b3
  | .b4 => .b4
  | .b5 => .b5
  | .c1 => .c1
  | .c2 => .c2
  | .c3 => .c3
  | .c4 => .c4
  | .c5 => .c5
  | .q1 => .q1
  | .s1 _ => .s1
  | .s2 _ => .s2
  | .s3 _ => .s3
  | .u1 => .u1
  | .u2 _ => .u2
  | .u3 _ _ => .u3
  | .w1 => .w1
  | .w2 _ => .w2
  | .a1 _ => .a1
  | .a2 _ => .a2
  | .a3 _ => .a3
  | .a4 => .a4
  | .g1 => .g1
  | .g2 => .g2
  | .g3 => .g3
  | .g4 => .g4
  | .g5 => .g5
  | .n1 => .n1
  | .k1 => .k1
  | .k1a => .k1a
  | .k1b _ => .k1b
  | .k2 => .k2
  | .k2a => .k2a
  | .k3 => .k3
  | .e1 _ => .e1
  | .e2 _ => .e2
  | .e3 _ => .e3
  | .e4 _ => .e4
  | .m1 => .m1
  | .m2 => .m2
  | .i0 => .i0
  | .i1 => .i1
  | .i2 => .i2
  | .i3 => .i3
  | .i4 => .i4
  | .d0 _ => .d0

/-- The frame in progress (R101). -/
def frameOf (s : State) : IrFrame := s.ir.getD IrFrame.zero

/-- The transients of the read. -/
def writeFrame (f : IrFrame) (s : State) : State := { s with ir := some f }

/-- Boot line B2: every output driven with its reset value (R156, R34). It leaves `bias_reg` as it is: where a script
has run the handler before B2 (log 23), the port no longer mirrors it until reset (R25; DESIGN CHOICE, log 24). -/
def driveResetOutputs (s : State) : State :=
  pinWrite .statusLed false (pinWrite .bias false (pinWrite .motorDown false (pinWrite .motorUp false s)))

/-- The case of `dispatch(b)` as calls of the Screen's and the Monoflop's operations (R111 to R117). -/
def dispatchLine (b : Button) (s : State) : State :=
  match b with
  | .on =>
    if s.err = .rotationFault then goto .g1 s else call (.s1 .down) (.line .m1) s
  | .off => call (.s1 .up) (.line .m1) s
  | .up => if isActive s then goto (.s1 .up) s else goto (.s1 .neutral) s
  | .down => if isActive s then goto (.s1 .down) s else goto (.s1 .neutral) s
  | .set => opReturn .unit s
  | .unknown => goto (.s1 .neutral) s

/-- Line S2 of `set_direction(d)`: the stop condition of an energizing direction is called (R83). -/
def admitLine (d : Direction) (s : State) : State :=
  match d with
  | .up => call .u1 (.s2 .up) s
  | .down => call .w1 (.s2 .down) s
  | .neutral => goto (.s3 .neutral) s

/-- Line A3 of `apply(d)`: the last line of Neutral, before the stamp otherwise (R85). -/
def recordLine (d : Direction) (s : State) : State :=
  match d with
  | .neutral => opReturn .unit (writeDir .neutral s)
  | .up => goto .a4 (writeDir .up s)
  | .down => goto .a4 (writeDir .down s)

/-- Line K3 of `check_stop_conditions`: the stop condition of the direction is called (R89). -/
def limitLine (s : State) : State :=
  match s.dir with
  | .up => call .u1 .k3 s
  | .down => call .w1 .k3 s
  | .neutral => opReturn .unit s

/-- Line I3 of `ir_read_frame`: one sample per time-unit, none past the end-of-frame threshold (R101). -/
def measureLine (s : State) : State :=
  if irTEof s.cfg < (frameOf s).d then goto .i4 s
  else
    let r := readIrLine s
    if r.1 then writeFrame { frameOf s with d := (frameOf s).d + 1 } r.2 else goto .i4 r.2

/-- Line I4 of `ir_read_frame`: the idle line ends the read, else the phase is a bit (R101). -/
def phaseLine (s : State) : State :=
  if irTEof s.cfg < (frameOf s).d then
    opReturn (.frame (frameValue (frameOf s)).1 (frameValue (frameOf s)).2) { s with ir := none }
  else goto .i1 (writeFrame (shiftIn (irTBit s.cfg) (frameOf s).d (frameOf s)) s)

/-- One foreground step: the line at `fg_at`, and where the foreground is next (R26, R42). -/
def fgLine (s : State) : Result :=
  match s.fgAt with
  -- boot (R156)
  | .b1 => .next (goto .b2 s)
  | .b2 => .next (goto .b3 (driveResetOutputs s))
  | .b3 => .next (goto .b4 { s with irqEnabled := true })
  | .b4 => .next (if s.cfg.bootHoming then call .g1 (.line .b5) s else goto .b5 s)
  | .b5 => .next (goto .c1 s)
  -- loop_iteration (R125)
  | .c1 => .next (call .q1 (.line .c2) s)
  | .c2 =>
    let r := readIrLine s
    .next (if r.1 then goto .c3 r.2 else call .i0 .c2 r.2)
  | .c3 =>
    let r := readEngaged s
    .next (if r.1 then call .n1 (.line .c4) r.2 else goto .c4 r.2)
  | .c4 => .next (call .k1 (.line .c5) s)
  | .c5 => .next (opReturn .unit (driveLed s))
  -- regular_check (R97)
  | .q1 => .next (opReturn .unit (regularCheck s))
  -- set_direction (R83)
  | .s1 d => .next (if s.dir = d then opReturn .unit s else goto (.s2 d) s)
  | .s2 d => .next (admitLine d s)
  | .s3 d => .next (goto (.a1 d) s)
  -- up_stop_condition (R81)
  | .u1 => .next (goto (.u2 (errorPresent s)) s)
  | .u2 e => .next (goto (.u3 e s.pos) s)
  | .u3 e p =>
    let r := readEngaged s
    .next (opReturn (.bool (e || decide (p ≤ s.cfg.upBound) || r.1)) r.2)
  -- down_stop_condition (R82)
  | .w1 => .next (goto (.w2 (errorPresent s)) s)
  | .w2 e => .next (opReturn (.bool (e || decide (s.cfg.downBound ≤ s.pos))) s)
  -- apply (R85)
  | .a1 d => .next (goto (.a2 d) (applyA1 d s))
  | .a2 d => .next (goto (.a3 d) (applyA2 d s))
  | .a3 d => .next (recordLine d s)
  | .a4 => .next (opReturn .unit (stampLtt s))
  -- go_home (R86)
  | .g1 => .next (if s.err = .endSwitchFault then opReturn .unit s else goto .g2 s)
  | .g2 => .next (goto .g3 (writeErr .none s))
  | .g3 =>
    let r := readEngaged s
    .next (if r.1 then opReturn .unit r.2 else goto .g4 r.2)
  | .g4 => andThen (writePos s.cfg.downBound s) fun t => .next (goto .g5 t)
  | .g5 => .next (goto (.s1 .up) s)
  -- on_endswitch_triggered (R88)
  | .n1 => andThen (onEndswitchTriggered s) fun t => .next (opReturn .unit t)
  -- check_stop_conditions (R89)
  | .k1 => .next (if s.dir = .neutral then goto .k2 s else goto .k1a s)
  | .k1a => .next (goto (.k1b s.ltt) s)
  | .k1b r =>
    .next (if expired (now s) r (stallTicks s.cfg) then call (.e1 .rotationFault) (.line .k2) s
      else goto .k2 s)
  | .k2 => .next (if s.dir = .up then goto .k2a s else goto .k3 s)
  | .k2a => .next (if overrun s then call (.e1 .endSwitchFault) (.line .k3) s else goto .k3 s)
  | .k3 => .next (limitLine s)
  -- enter_error (R91): E1 to E3 are apply(Neutral)
  | .e1 k => .next (goto (.e2 k) (applyA1 .neutral s))
  | .e2 k => .next (goto (.e3 k) (applyA2 .neutral s))
  | .e3 k => .next (goto (.e4 k) (writeDir .neutral s))
  | .e4 k => .next (opReturn .unit (writeErr (errOfFault k) s))
  -- trigger (R95)
  | .m1 => .next (goto .m2 (stampMono s))
  | .m2 => .next (opReturn .unit (writeActive true s))
  -- ir_read_frame (R101)
  | .i0 => .next (goto .i1 (writeFrame IrFrame.zero s))
  | .i1 =>
    let r := readIrLine s
    .next (if r.1 then goto .i2 r.2 else r.2)
  | .i2 => .next (goto .i3 (writeFrame { frameOf s with d := 0 } s))
  | .i3 => .next (measureLine s)
  | .i4 => .next (phaseLine s)
  -- dispatch (R111)
  | .d0 b => .next (dispatchLine b s)

/-- `n` foreground lines with no other agent between them. -/
def runLines : Nat → State → Result
  | 0, s => .next s
  | n + 1, s => andThen (fgLine s) (runLines n)

/-- The first line of an operation that has lines (R26), and none for the pure functions and accessors,
the timer and the interrupt context. -/
def entryLine : Instr → Option Line
  | .irOn => some (.d0 .on)
  | .irOff => some (.d0 .off)
  | .irUp => some (.d0 .up)
  | .irDown => some (.d0 .down)
  | .irSet => some (.d0 .set)
  | .irUnknown _ => some (.d0 .unknown)
  | .now | .timerStep | .wrapSub | .ticksFor => none
  | .setDirection d => some (.s1 d)
  | .goHome => some .g1
  | .onRotationTick => none
  | .onEndswitchTriggered => some .n1
  | .checkStopConditions => some .k1
  | .upStopCondition => some .u1
  | .downStopCondition => some .w1
  | .error => none
  | .enterError k => some (.e1 k)
  | .trigger => some .m1
  | .isActive => none
  | .regularCheck => some .q1
  | .irReadFrame => some .i0
  | .irDecode | .decodeButton => none
  | .dispatch b => some (.d0 b)
  | .onComparatorEdge _ => none
  | .loopIteration => some .c1
  | .ledValue => none

/-- The foreground about to run an operation alone (R70). -/
def invoke (l : Line) (s : State) : State := call l (.alone s.fgAt) s

end Sys2Proof.Machine
end

