-- ==== Sys2Proof/Machine/Agents.lean ====
section
/-! DEFINITION. One move of one agent (10_state.md R13, 70_reset_and_hazards.md R166), reset asserted during a run
(R154), the context each operation runs in (60_exceptions.md R148), and when the foreground can run an
operation alone (30_encoding.md R70). -/

namespace Sys2Proof.Machine

/-- Reset: every cell and output at the value of R34, the unspecified ones drawn; the configuration, the
levels the environment holds, its script and the model's own operand cells are not the block's (R14,
R154, log 3, log 20). -/
def powerOn (dr : ResetDraws) (s : State) : State :=
  { State.resetWith s.cfg dr with
    irLine := s.irLine
    irNext := s.irNext
    endSwitchN := s.endSwitchN
    swNext := s.swNext
    stimuli := s.stimuli
    draws := s.draws + 1
    argLater := s.argLater
    argEarlier := s.argEarlier
    argMs := s.argMs
    argDs := s.argDs
    argBuf := s.argBuf
    ret := s.ret }

/-- The step of the agent a move names. -/
def runMove (m : Move) (s : State) : Result :=
  match m with
  | .foreground => fgLine s
  | .timer => .next (timerStep s)
  | .compEdge level => deliverEdge level s
  | .irLine level next => .next { s with irLine := level, irNext := next }
  | .endSwitch level next => .next { s with endSwitchN := level, swNext := next }
  | .reset => .next (powerOn (Config.freeReset s.draws) s)

/-- The foreground is about to begin an iteration, or has just ended one (R26, R165). -/
def atIterationStart (s : State) : Bool := s.callStack.isEmpty && decide (s.fgAt = .c1)

/-- One foreground line of an `ITER` in progress; the iteration that ends with it ends the script entry (R70). -/
def iterLine (rest : List Stimulus) (s : State) : Result :=
  andThen (fgLine s) fun t => .next (if atIterationStart t then { t with stimuli := rest } else t)

/-- One step of an `ITER` in progress: the next move its line states, if the foreground stands at the line that move
is to precede, else a foreground line (R70, log 25). -/
def iterStep (inside : List (Label × Move)) (rest : List Stimulus) (s : State) : Result :=
  match inside with
  | [] => iterLine rest { s with stimuli := .iterating [] :: rest }
  | (l, m) :: more =>
    if labelOf s.fgAt = l then
      if m = .foreground then iterLine rest { s with stimuli := .iterating more :: rest }
      else runMove m { s with stimuli := .iterating more :: rest }
    else iterLine rest { s with stimuli := .iterating ((l, m) :: more) :: rest }

/-- Who runs an operation (R13, R69, R148). -/
inductive Context where
  | foreground
  | interrupt
  | timer
  /-- `now`: "F, I". -/
  | both
  /-- `ticks_for`: configuration time. -/
  | configuration
deriving DecidableEq, Repr

/-- The table of R148, with R69 for the timer and the configuration. -/
def contextOf : Instr → Context
  | .irOn | .irOff | .irUp | .irDown | .irSet | .irUnknown _ => .foreground
  | .now => .both
  | .timerStep => .timer
  | .wrapSub => .foreground
  | .ticksFor => .configuration
  | .setDirection _ | .goHome => .foreground
  | .onRotationTick => .interrupt
  | .onEndswitchTriggered | .checkStopConditions | .upStopCondition | .downStopCondition => .foreground
  | .error | .enterError _ => .foreground
  | .trigger | .isActive | .regularCheck => .foreground
  | .irReadFrame | .irDecode | .decodeButton | .dispatch _ => .foreground
  | .onComparatorEdge _ => .interrupt
  | .loopIteration | .ledValue => .foreground

/-- The lines of the loop body itself (R125). -/
def isLoopLine : Line → Bool
  | .c1 | .c2 | .c3 | .c4 | .c5 => true
  | _ => false

/-- Boot is complete and the foreground is inside no operation that the loop body calls, so that it can run
one alone (R70; every program of 95_test_vectors.md starts with boot complete). -/
def betweenOperations (s : State) : Bool := s.callStack.isEmpty && isLoopLine s.fgAt

/-- An operation that some context can run now: a foreground operation waits for the foreground to end
the one it is in; the others do not (R13, R148, log 7). -/
def canRun (i : Instr) (s : State) : Bool :=
  !decide (contextOf i = .foreground) || betweenOperations s

/-- A state in which boot is complete and the foreground stands between operations. What the loading of a program does
to a foreground that is still in boot or inside an operation is the model's choice (DESIGN CHOICE, log 14): it stands at
C1 with nothing called, the edge interrupt is enabled as boot line B3 leaves it, and what is left of boot, the homing of
B4 included, is not run. -/
def foregroundFree (s : State) : State :=
  if betweenOperations s then s else { s with fgAt := .c1, callStack := [], ir := none, irqEnabled := true }

end Sys2Proof.Machine
end

