-- ==== Sys2Proof/Machine/Dispatch.lean ====
section
/-! DEFINITION. The meaning of every operation, one arm per constructor of Instr. -/

namespace Sys2Proof.Machine

def exec (i : Instr) (s : State) : Host.Outcome State Fault Refusal :=
  match i with
  | .irOn => Sys2Proof.Machine.execIrOn s
  | .irOff => Sys2Proof.Machine.execIrOff s
  | .irUp => Sys2Proof.Machine.execIrUp s
  | .irDown => Sys2Proof.Machine.execIrDown s
  | .irSet => Sys2Proof.Machine.execIrSet s
  | .irUnknown w => Sys2Proof.Machine.execIrUnknown w s
  | .now => Sys2Proof.Machine.execNow s
  | .timerStep => Sys2Proof.Machine.execTimerStep s
  | .wrapSub => Sys2Proof.Machine.execWrapSub s
  | .ticksFor => Sys2Proof.Machine.execTicksFor s
  | .setDirection d => Sys2Proof.Machine.execSetDirection d s
  | .goHome => Sys2Proof.Machine.execGoHome s
  | .onRotationTick => Sys2Proof.Machine.execOnRotationTick s
  | .onEndswitchTriggered => Sys2Proof.Machine.execOnEndswitchTriggered s
  | .checkStopConditions => Sys2Proof.Machine.execCheckStopConditions s
  | .upStopCondition => Sys2Proof.Machine.execUpStopCondition s
  | .downStopCondition => Sys2Proof.Machine.execDownStopCondition s
  | .error => Sys2Proof.Machine.execError s
  | .enterError k => Sys2Proof.Machine.execEnterError k s
  | .trigger => Sys2Proof.Machine.execTrigger s
  | .isActive => Sys2Proof.Machine.execIsActive s
  | .regularCheck => Sys2Proof.Machine.execRegularCheck s
  | .irReadFrame => Sys2Proof.Machine.execIrReadFrame s
  | .irDecode => Sys2Proof.Machine.execIrDecode s
  | .decodeButton => Sys2Proof.Machine.execDecodeButton s
  | .dispatch b => Sys2Proof.Machine.execDispatch b s
  | .onComparatorEdge level => Sys2Proof.Machine.execOnComparatorEdge level s
  | .loopIteration => Sys2Proof.Machine.execLoopIteration s
  | .ledValue => Sys2Proof.Machine.execLedValue s

end Sys2Proof.Machine
end

