-- ==== Sys2Proof/Machine/Step.lean ====
section
/-! DEFINITION. One step: an ill-formed configuration has no meaning (00_scope.md R7); the head of the stimulus
script is the next agent's move or an operation run alone (30_encoding.md R70); with no script any agent may
move (10_state.md R13). -/

namespace Sys2Proof.Machine

/-- One step of the machine. An operation whose context is busy waits one foreground line (log 7), and so does an
`ITER` that finds the foreground not at C1 (log 25). -/
def step (s : State) : Host.Outcome State Fault Refusal :=
  if configOk s.cfg then
    match s.stimuli with
    | [] => runMove (Config.freeMove s.draws) { s with draws := s.draws + 1 }
    | .move m :: rest => runMove m { s with stimuli := rest }
    | .code bytes :: rest =>
      match decode bytes with
      | .ok i => if canRun i s then exec i { s with stimuli := rest } else fgLine s
      | .error e => .refused (.notAnOperation e)
    | .operand o :: rest => .next (writeOperand o { s with stimuli := rest })
    | .iter inside :: rest => if atIterationStart s then iterStep inside rest s else fgLine s
    | .iterating inside :: rest => iterStep inside rest s
  else .refused .illFormedConfig

/-- `s` with the operation at the head of its script, boot complete and the foreground between operations so that it
can run (DESIGN CHOICE, log 14). -/
def State.withFetchWord (s : State) (nbits w : Nat) : State :=
  let t := foregroundFree s
  { t with stimuli := .code (bytesOfTableWord ((nbits + 7) / 8) w) :: t.stimuli }

end Sys2Proof.Machine
end

