-- ==== Sys2Proof/Machine/Script.lean ====
section
/-! DEFINITION. The stimulus-script notation (30_encoding.md R70) and its pseudo-instructions (R71), as lists of
stimuli. -/

namespace Sys2Proof.Machine

/-- `T+ n`: n timer steps (R70). -/
def scriptTimer (n : Nat) : List Stimulus := List.replicate n (.move .timer)

/-- `SW e`: e = 1 engaged, hence the line 0 (R70). -/
def scriptSwitch (engaged : Bool) : List Stimulus := [.move (.endSwitch (!engaged) [])]

/-- `EDGE l`: one `CompEdge(l)` event (R70). -/
def scriptEdge (level : Bool) : List Stimulus := [.move (.compEdge level)]

/-- `IRD d1 ... dk`: the line low for the next sample, the high phases in order, then idle (R70). -/
def scriptDurations (ds : List Nat) : List Stimulus := [.move (.irLine false (waveSamples ds))]

/-- `op(args)`: the named operation alone, its arguments in its code (R69, R70). -/
def scriptOp (i : Instr) : List Stimulus := [.code (encode i)]

/-- `op(args)` for an operation whose arguments no code bit carries (R69, R70). -/
def scriptOpWith (i : Instr) (o : Operand) : List Stimulus := .operand o :: scriptOp i

/-- `wrap_sub(a, b)` (R70, R74). -/
def scriptWrapSub (a b : ClockTick) : List Stimulus := scriptOpWith .wrapSub (.ticks a b)

/-- `ticks_for(ms)` (R70, R75). -/
def scriptTicksFor (ms : Nat) : List Stimulus := scriptOpWith .ticksFor (.ms ms)

/-- `ir_decode(ds)` (R70, R104). -/
def scriptIrDecode (ds : List Nat) : List Stimulus := scriptOpWith .irDecode (.durations ds)

/-- `decode_button(buf)` (R70, R107). -/
def scriptDecodeButton (buf : FrameBuf) : List Stimulus := scriptOpWith .decodeButton (.bytes buf)

/-- `ITER`: one whole `loop_iteration` with no other agent stepping inside it (R70). -/
def scriptIter : List Stimulus := scriptOp .loopIteration

/-- `ITER` with what the same line states: the moves inside it, each before the line it names (R70). -/
def scriptIterWith (inside : List (Label × Move)) : List Stimulus := [.iter inside]

/-- `IR W` (R71). -/
def scriptFrame (cfg : Config) (w : FrameWord) : List Stimulus := scriptDurations (frameDurations cfg w)

/-- The frame `PRESS b` puts on the line; Unknown has none (R59, R71). -/
def pressWord : Button → Option FrameWord
  | .on => some 0xE0D504FB#32
  | .off => some 0xE0D544BB#32
  | .up => some 0xE0D506F9#32
  | .down => some 0xE0D526D9#32
  | .set => some 0xE0D550AF#32
  | .unknown => none

/-- `PRESS b` for a button other than Unknown (R71). -/
def scriptPress (cfg : Config) (b : Button) : List Stimulus :=
  match pressWord b with
  | some w => scriptFrame cfg w
  | none => []

/-- `TICKS n`: edges alternating from the complement of the last level forwarded (R71). -/
def scriptTicks : Nat → Bool → List Stimulus
  | 0, _ => []
  | n + 1, last => scriptEdge (!last) ++ scriptTicks n (!last)

/-- `RUN n` (R71). -/
def scriptRun (n : Nat) : List Stimulus := (List.replicate n scriptIter).flatten

/-- `WAIT m`: `T+ ticks_for(m)`, where `ticks_for(m)` has a value (R71). -/
def scriptWait (cfg : Config) (ms : Nat) : Option (List Stimulus) :=
  (ticksFor cfg ms).map fun t => scriptTimer t.toNat

/-- A script in its start state, which holds its configuration (R70). -/
def loadScript (start : State) (script : List Stimulus) : State := { start with stimuli := script }

end Sys2Proof.Machine
end

