-- ==== Sys2Proof/Safety.lean ====
section
/-! DEFINITION. What a safe state of the block is, in the terms the statements use: the motor pins and the
sticky error (10_state.md R21, R33), at every line of the foreground and not only between operations; the range of
`pos` (R22); the frame in progress (R24). -/

namespace Sys2Proof.Safety

open Sys2Proof.Machine

/-- The cells and ports the motor rules speak of. -/
structure MotorView where
  dir : Direction
  err : ErrorKind
  motorUp : Bool
  motorDown : Bool
deriving DecidableEq, Repr

/-- What a state shows of them. -/
abbrev motorView (s : State) : MotorView := ⟨s.dir, s.err, s.motorUp, s.motorDown⟩

/-- The pins encode the direction `d` (R67). -/
def pinsAre (d : Direction) (v : MotorView) : Bool :=
  match d with
  | .neutral => !v.motorUp && !v.motorDown
  | .up => v.motorUp && !v.motorDown
  | .down => !v.motorUp && v.motorDown

/-- Never both pins energized (R33, U13). -/
def pinsExclusive (v : MotorView) : Bool := !(v.motorUp && v.motorDown)

/-- `err ≠ None` implies `dir = Neutral` (R21). -/
def errorStops (v : MotorView) : Bool := v.err == .none || v.dir == .neutral

/-- What R21 and R33 say at an operation boundary. -/
def restful (v : MotorView) : Bool := pinsAre v.dir v && errorStops v

/-- A direction may be applied: Neutral always, the others only without an error (R81 to R83). -/
def mayApply (d : Direction) (v : MotorView) : Bool := d == .neutral || v.err == .none

/-- Between lines A1 and A2 the pin to be energized is the only one that can be on (R85). -/
def halfApplied (d : Direction) (v : MotorView) : Bool :=
  match d with
  | .neutral => !v.motorUp && errorStops v
  | .up => !v.motorDown && v.err == .none
  | .down => !v.motorUp && v.err == .none

/-- What holds when the foreground stands at a line: `restful` outside `apply` and `enter_error`, the
half-way pins inside them, and what the operation has tested or read so far. -/
def lineOk (v : MotorView) : Line → Bool
  | .b1 => restful v && v.dir == .neutral
  | .b2 => restful v && v.dir == .neutral
  | .b3 => restful v
  | .b4 => restful v
  | .b5 => restful v
  | .c1 => restful v
  | .c2 => restful v
  | .c3 => restful v
  | .c4 => restful v
  | .c5 => restful v
  | .q1 => restful v
  | .s1 _ => restful v
  | .s2 _ => restful v
  | .s3 d => restful v && mayApply d v
  | .u1 => restful v
  | .u2 e => restful v && e == (v.err != .none)
  | .u3 e _ => restful v && e == (v.err != .none)
  | .w1 => restful v
  | .w2 e => restful v && e == (v.err != .none)
  | .a1 d => restful v && mayApply d v
  | .a2 d => halfApplied d v
  | .a3 d => pinsAre d v && errorStops v && mayApply d v
  | .a4 => restful v
  | .g1 => restful v
  | .g2 => restful v && v.err != .endSwitchFault
  | .g3 => restful v
  | .g4 => restful v
  | .g5 => restful v
  | .n1 => restful v
  | .k1 => restful v
  | .k1a => restful v && v.dir != .neutral
  | .k1b _ => restful v && v.dir != .neutral
  | .k2 => restful v
  | .k2a => restful v && v.dir == .up
  | .k3 => restful v
  | .e1 _ => restful v && v.err == .none
  | .e2 _ => !v.motorUp && v.err == .none
  | .e3 _ => pinsAre .neutral v && v.err == .none
  | .e4 _ => pinsAre .neutral v && v.dir == .neutral && v.err == .none
  | .m1 => restful v
  | .m2 => restful v
  | .i0 => restful v
  | .i1 => restful v
  | .i2 => restful v
  | .i3 => restful v
  | .i4 => restful v
  | .d0 _ => restful v

/-- Lines at which the foreground goes on after an operation that returns nothing. -/
def resumable : Line → Bool
  | .b5 | .c1 | .c2 | .c3 | .c4 | .c5 | .k2 | .k3 | .m1 => true
  | _ => false

/-- A call stack under an operation that returns nothing. -/
def plainStack : List Cont → Bool
  | [] => true
  | .line l :: st => resumable l && plainStack st
  | .alone l :: st => isLoopLine l && plainStack st
  | .s2 _ :: _ => false
  | .k3 :: _ => false
  | .c2 :: _ => false

/-- A call stack under a stop condition, whose value S2 or K3 may be waiting for. -/
def conditionStack : List Cont → Bool
  | .s2 _ :: st => plainStack st
  | .k3 :: st => plainStack st
  | st => plainStack st

/-- A call stack under `ir_read_frame`, whose value C2 may be waiting for. -/
def readStack : List Cont → Bool
  | .c2 :: st => plainStack st
  | st => plainStack st

/-- The call stack that the operation at a line can have. -/
def stackOk (st : List Cont) : Line → Bool
  | .u1 | .u2 _ | .u3 _ _ | .w1 | .w2 _ => conditionStack st
  | .i0 | .i1 | .i2 | .i3 | .i4 => readStack st
  | _ => plainStack st

/-- The motor invariant at every line: what R21 and R33 say between operations, carried through them. -/
def MotorInv (s : State) : Prop := lineOk (motorView s) s.fgAt = true ∧ stackOk s.callStack s.fgAt = true

/-- A state whose switch port has been sampled once more: the port shows the environment's next level
(R35). -/
def switchSampled (s : State) : State :=
  { s with endSwitchN := s.swNext.headD s.endSwitchN, swNext := s.swNext.tail }

/-- A state whose infrared port has been sampled once more (R35). -/
def irSampled (s : State) : State :=
  { s with irLine := s.irNext.headD s.irLine, irNext := s.irNext.tail }

/-- The latch after a poll: kept while at most `MONO_TICKS` have elapsed (R97). -/
def latchAfterPoll (s : State) : Bool :=
  s.monoActive && decide ((s.tick - s.monoTrig).toNat ≤ s.cfg.monoflopMs * s.cfg.tickHzNum / (1000 * s.cfg.tickHzDen))

/-- Lines that read the clock: those with a `now()` (R42, R48). -/
def readsClock : Line → Bool
  | .c5 | .q1 | .a4 | .k1b _ | .m1 => true
  | _ => false

/-- Lines that write `dir`, or read or write `pos` or `ltt` (R48); and boot line B2, which drives the handler's
own port while the interrupt is not enabled (R156). -/
def touchesShared : Line → Bool
  | .a3 _ | .e3 _ | .u2 _ | .w2 _ | .k2a | .g4 | .n1 | .a4 | .k1a | .b2 => true
  | _ => false

/-- `pos` is in the range of `POS_WIDTH` bits (R22). -/
def PosInv (s : State) : Prop := posInRange s.cfg s.pos = true

/-- A frame in progress has at most 32 bits (R24). -/
def FrameInv (s : State) : Prop := (frameOf s).nbits ≤ 32

end Sys2Proof.Safety
end

