-- ==== Sys2Proof/Certificates/Slice0/Obligations.lean ====
section
/-! DEFINITION. The statements for the provers, each a claim of the spec's rules about the model. -/

open Sys2Proof Sys2Proof.Machine Sys2Proof.Safety

/-! ## Encoding -/

/-- Bytes written out from R57, R59 and R69 decode to the operations they stand for, and two that name
none are rejected. -/
def Obligations.WrittenOutCodesDecode : Prop :=
  decode [0xE0#8, 0xD5#8, 0x04#8, 0xFB#8] = .ok .irOn ∧
  decode [0xE0#8, 0xD5#8, 0x50#8, 0xAF#8] = .ok .irSet ∧
  decode [0xE0#8, 0xD5#8, 0x04#8, 0xFA#8] = .ok (.irUnknown 0xE0D504FA#32) ∧
  decode [0b00001000#8] = .ok .timerStep ∧
  decode [0b00100010#8] = .ok (.setDirection .down) ∧
  decode [0b01100010#8] = .ok (.enterError .rotationFault) ∧
  decode [0b01101000#8] = .ok .trigger ∧
  decode [0b10000000#8] = .ok .irReadFrame ∧
  decode [0b10011101#8] = .ok (.dispatch .unknown) ∧
  decode [0b10100001#8] = .ok (.onComparatorEdge true) ∧
  decode [0b10101000#8] = .ok .loopIteration ∧
  decode [0b01100000#8] = .error (.badArgument 12 0) ∧
  decode [0b10111000#8] = .error (.noSuchIndex 23)

/-- Encoding loses no bit: every well-formed operation is read back from its bytes (R57, R59, R60, R69). -/
def Obligations.DecodeOfEncodeIsTheOperation : Prop :=
  ∀ i : Instr, i.wellFormed = true → decode (encode i) = .ok i

/-- Each code has one meaning: bytes that decode are the bytes of the operation they decode to, and that
operation is well formed (R59, R60, R69). -/
def Obligations.EncodeOfDecodeIsTheBytes : Prop :=
  ∀ (bs : List Byte) (i : Instr), decode bs = .ok i → encode i = bs ∧ i.wellFormed = true

/-! ## The step -/

/-- A step runs the decoded operation: when the head of the script decodes to an operation some context can
run now, the step is exec of that operation on the state with that entry consumed (R70, R148). When that is, is the
model's: a foreground operation runs whole at any of C1 to C5 with nothing called (DESIGN CHOICE, log 7), one of
another context at once, also with the interrupt not enabled (DEDUCED, log 23). -/
def Obligations.StepRunsDecodedOperation : Prop :=
  ∀ (s : State) (bytes : List Byte) (rest : List Stimulus) (i : Instr),
    configOk s.cfg = true → s.stimuli = .code bytes :: rest → decode bytes = .ok i →
    (contextOf i ≠ .foreground ∨ (s.callStack = [] ∧ isLoopLine s.fgAt = true)) →
    step s = exec i { s with stimuli := rest }

/-- A foreground operation that finds the foreground inside boot or another operation waits: the step is one
foreground line and the script stays (model's choice, log 7; R70, R148). So does an `ITER` with moves inside that finds
the foreground not about to begin an iteration (model's choice, log 25; R70). -/
def Obligations.BusyForegroundFinishesFirst : Prop :=
  (∀ (s : State) (bytes : List Byte) (rest : List Stimulus) (i : Instr),
    configOk s.cfg = true → s.stimuli = .code bytes :: rest → decode bytes = .ok i →
    contextOf i = .foreground → (s.callStack ≠ [] ∨ isLoopLine s.fgAt = false) →
    step s = fgLine s) ∧
  (∀ (s : State) (inside : List (Label × Move)) (rest : List Stimulus),
    configOk s.cfg = true → s.stimuli = .iter inside :: rest → (s.callStack ≠ [] ∨ s.fgAt ≠ .c1) →
    step s = fgLine s)

/-- R7: an ill-formed configuration is refused, whichever clause it breaks. -/
def Obligations.IllFormedConfigurationIsRefused : Prop :=
  ∀ (s : State) (stall mono bit eof : Nat),
    stall = s.cfg.stallMs * s.cfg.tickHzNum / (1000 * s.cfg.tickHzDen) →
    mono = s.cfg.monoflopMs * s.cfg.tickHzNum / (1000 * s.cfg.tickHzDen) →
    bit = s.cfg.irBitPerMhz * s.cfg.fRefNum / s.cfg.fRefDen →
    eof = s.cfg.irEofPerMhz * s.cfg.fRefNum / s.cfg.fRefDen →
    ¬ (0 < stall ∧ stall < 32768 ∧ 0 < mono ∧ mono < 32768 ∧ 0 < bit ∧ bit < eof ∧
        s.cfg.upBound < 0 ∧ 0 < s.cfg.downBound) →
    step s = .refused .illFormedConfig

/-- R69: indices 23 to 31, arguments outside the stated type and `enter_error` with kind 0 name no
operation. -/
def Obligations.UnnamedCodesAreRefused : Prop :=
  ∀ (s : State) (b : Byte) (rest : List Stimulus),
    configOk s.cfg = true → s.stimuli = .code [b] :: rest →
    (23 ≤ b.toNat / 8 ∨
     (b.toNat / 8 = 4 ∧ 2 < b.toNat % 8) ∨
     (b.toNat / 8 = 12 ∧ b.toNat % 8 ≠ 1 ∧ b.toNat % 8 ≠ 2) ∨
     (b.toNat / 8 = 19 ∧ 5 < b.toNat % 8) ∨
     (b.toNat / 8 = 20 ∧ 1 < b.toNat % 8) ∨
     (b.toNat / 8 ∉ [4, 12, 19, 20] ∧ b.toNat % 8 ≠ 0)) →
    ∃ e, step s = .refused (.notAnOperation e)

/-- The timer's and the environment's moves write one thing each (R73, R144, R166). That an edge before boot has
enabled the interrupt is consumed and changes nothing else is the model's reading of "no event" (DEDUCED, log 12). The
arguments a script gives an operation are written to the operand cells, and nothing else is (R69, R70; model's choice,
log 8). An `ITER` with moves inside begins at C1 with nothing called; each move it states is made before the line it
names; every other step is a foreground line; and the line that ends the iteration ends the entry (R70; the notation of
the moves is the model's choice, log 25). -/
def Obligations.TimerAndInputMoves : Prop :=
  ∀ (s : State) (rest : List Stimulus), configOk s.cfg = true →
    (s.stimuli = .move .timer :: rest → step s = .next { s with stimuli := rest, tick := s.tick + 1#16 }) ∧
    (∀ level next, s.stimuli = .move (.irLine level next) :: rest →
      step s = .next { s with stimuli := rest, irLine := level, irNext := next }) ∧
    (∀ level next, s.stimuli = .move (.endSwitch level next) :: rest →
      step s = .next { s with stimuli := rest, endSwitchN := level, swNext := next }) ∧
    (∀ level, s.stimuli = .move (.compEdge level) :: rest → s.irqEnabled = false →
      step s = .next { s with stimuli := rest }) ∧
    (∀ level, s.stimuli = .move (.compEdge level) :: rest → s.irqEnabled = true →
      step s = exec (.onComparatorEdge level) { s with stimuli := rest }) ∧
    (s.stimuli = .move .foreground :: rest → step s = fgLine { s with stimuli := rest }) ∧
    (∀ later earlier, s.stimuli = .operand (.ticks later earlier) :: rest →
      step s = .next { s with stimuli := rest, argLater := later, argEarlier := earlier }) ∧
    (∀ n, s.stimuli = .operand (.ms n) :: rest → step s = .next { s with stimuli := rest, argMs := n }) ∧
    (∀ ds, s.stimuli = .operand (.durations ds) :: rest →
      step s = .next { s with stimuli := rest, argDs := ds }) ∧
    (∀ buf, s.stimuli = .operand (.bytes buf) :: rest →
      step s = .next { s with stimuli := rest, argBuf := buf }) ∧
    (∀ inside, s.stimuli = .iter inside :: rest → s.callStack = [] → s.fgAt = .c1 →
      step s = step { s with stimuli := .iterating inside :: rest }) ∧
    (∀ l m more, s.stimuli = .iterating ((l, m) :: more) :: rest → labelOf s.fgAt = l → m ≠ .foreground →
      step s = runMove m { s with stimuli := .iterating more :: rest }) ∧
    (∀ inside more, s.stimuli = .iterating inside :: rest →
      (inside = (labelOf s.fgAt, .foreground) :: more ∨
       (inside = more ∧ ∀ lm ∈ inside.head?, lm.1 ≠ labelOf s.fgAt)) →
      (∀ t, fgLine { s with stimuli := .iterating more :: rest } = .next t →
        step s = .next (if t.callStack = [] ∧ t.fgAt = .c1 then { t with stimuli := rest } else t)) ∧
      (∀ r, fgLine { s with stimuli := .iterating more :: rest } = .refused r → step s = .refused r))

/-! ## Reset and boot -/

/-- The reset values R34 states, for every configuration and every draw of the unspecified cells, and that
State.reset is such a state (the draws and the configuration it holds are the model's, log 2, log 3). -/
def Obligations.ResetLeavesTheStatedValues : Prop :=
  (∀ (cfg : Config) (dr : ResetDraws), ∃ s, s = State.resetWith cfg dr ∧
    s.cfg = cfg ∧ s.dir = .neutral ∧ s.err = .none ∧ s.pos = cfg.posReset ∧ s.monoActive = false ∧
    s.ir = none ∧ s.biasReg = false ∧ s.motorUp = false ∧ s.motorDown = false ∧ s.bias = false ∧
    s.statusLed = false ∧ s.irqEnabled = false ∧ s.fgAt = .b1 ∧ s.callStack = []) ∧
  (∃ cfg dr, State.reset = State.resetWith cfg dr ∧ configOk cfg = true)

/-- Reset asserted in any state has the same effect, whatever is drawn; the configuration, the input levels
and the script are not the block's (R154, R166; model's choice for the script, log 20). -/
def Obligations.ResetMoveLeavesTheStatedValues : Prop :=
  ∀ (s : State) (rest : List Stimulus), configOk s.cfg = true → s.stimuli = .move .reset :: rest →
    ∃ t, step s = .next t ∧
      t.dir = .neutral ∧ t.err = .none ∧ t.pos = s.cfg.posReset ∧ t.monoActive = false ∧ t.ir = none ∧
      t.biasReg = false ∧ t.motorUp = false ∧ t.motorDown = false ∧ t.bias = false ∧
      t.statusLed = false ∧ t.irqEnabled = false ∧ t.fgAt = .b1 ∧ t.callStack = [] ∧
      t.cfg = s.cfg ∧ t.irLine = s.irLine ∧ t.irNext = s.irNext ∧ t.endSwitchN = s.endSwitchN ∧
      t.swNext = s.swNext ∧ t.stimuli = rest

/-- Boot, B1 to B5 with no other agent between: outputs at their reset values, then the interrupt enabled,
then the loop; with `BOOT_HOMING`, line B4 calls `go_home` first, the interrupt already enabled (R156). -/
def Obligations.BootEnablesTheInterruptAndEntersTheLoop : Prop :=
  ∀ s : State, s.fgAt = .b1 → s.callStack = [] →
    (s.cfg.bootHoming = false →
      runLines 5 s = .next { s with
        fgAt := .c1, irqEnabled := true,
        motorUp := false, motorDown := false, bias := false, statusLed := false }) ∧
    (s.cfg.bootHoming = true →
      runLines 4 s = .next { s with
        fgAt := .g1, callStack := [.line .b5], irqEnabled := true,
        motorUp := false, motorDown := false, bias := false, statusLed := false })

/-! ## Clock -/

/-- R72: `now()` returns the whole counter and writes nothing. -/
def Obligations.NowReturnsTheCounter : Prop :=
  ∀ s : State, exec .now s = .next { s with ret := .tick s.tick }

/-- R73: one timer step adds one modulo 65536 and writes nothing else. -/
def Obligations.TimerStepAddsOneModuloWrap : Prop :=
  ∀ s : State, ∃ v : ClockTick, v.toNat = (s.tick.toNat + 1) % 65536 ∧
    exec .timerStep s = .next { s with tick := v }

/-- R74: `wrap_sub(a, b)` is `(a − b) mod TICK_MOD`, and nothing is written. -/
def Obligations.WrapSubResult : Prop :=
  ∀ s : State, ∃ v : ClockTick,
    (v.toNat : Int) = ((s.argLater.toNat : Int) - (s.argEarlier.toNat : Int)) % 65536 ∧
    exec .wrapSub s = .next { s with ret := .tick v }

/-- R74, R78: after exactly `k` timer steps the wrap-safe difference of the readings is `k` below one wrap
and `k mod TICK_MOD` beyond, the lost multiples gone. -/
def Obligations.WrapSubCountsTimerSteps : Prop :=
  ∀ (s : State) (k : Nat), (wrapSub (timerStep^[k] s).tick s.tick).toNat = k % 65536

/-- R75: the floor of `ms × TICK_HZ / 1000`, refused at `HALF_WRAP` or more. -/
def Obligations.TicksForFloorsOrRefuses : Prop :=
  ∀ (s : State) (q : Nat), q = s.argMs * s.cfg.tickHzNum / (1000 * s.cfg.tickHzDen) →
    (q < 32768 → ∃ v : ClockTick, v.toNat = q ∧ exec .ticksFor s = .next { s with ret := .tick v }) ∧
    (32768 ≤ q → exec .ticksFor s = .refused .ticksOutOfRange)

/-- R15, R73: no foreground line and no operation but `timer_step` changes the counter. -/
def Obligations.OnlyTheTimerMovesTheCounter : Prop :=
  (∀ s t : State, fgLine s = .next t → t.tick = s.tick) ∧
  (∀ (i : Instr) (s t : State), i ≠ .timerStep → exec i s = .next t → t.tick = s.tick)

/-! ## Screen -/

/-- R81: the up stop condition holds with an error, at or past the up bound, or on an engaged switch; nothing is
written, and only the switch port moves on to the environment's next level. -/
def Obligations.UpStopConditionResult : Prop :=
  ∀ s : State, exec .upStopCondition s = .next { switchSampled s with
    ret := .bool (decide (s.err ≠ .none) || decide (s.pos ≤ s.cfg.upBound) || !s.endSwitchN) }

/-- R82: the down stop condition holds with an error or at or past the down bound; nothing is written and the switch
plays no part. -/
def Obligations.DownStopConditionResult : Prop :=
  ∀ s : State, exec .downStopCondition s = .next { s with
    ret := .bool (decide (s.err ≠ .none) || decide (s.cfg.downBound ≤ s.pos)) }

/-- R83, R85: an admitted request energizes exactly one pin, de-energizes the other, records the direction and
stamps; Neutral is always admitted, de-energizes both and does not stamp. -/
def Obligations.SetDirectionAdmitted : Prop :=
  ∀ s : State,
    (s.dir ≠ .up → s.err = .none → s.cfg.upBound < s.pos → s.endSwitchN = true →
      exec (.setDirection .up) s = .next { switchSampled s with
        dir := .up, motorUp := true, motorDown := false, ltt := s.tick, ret := .unit }) ∧
    (s.dir ≠ .down → s.err = .none → s.pos < s.cfg.downBound →
      exec (.setDirection .down) s = .next { s with
        dir := .down, motorUp := false, motorDown := true, ltt := s.tick, ret := .unit }) ∧
    (s.dir ≠ .neutral →
      exec (.setDirection .neutral) s = .next { s with
        dir := .neutral, motorUp := false, motorDown := false, ret := .unit })

/-- R83: a refused request changes nothing at all; the motor keeps its previous direction. -/
def Obligations.SetDirectionRefusedChangesNothing : Prop :=
  ∀ s : State,
    (s.dir ≠ .up → (s.err ≠ .none ∨ s.pos ≤ s.cfg.upBound ∨ s.endSwitchN = false) →
      exec (.setDirection .up) s = .next { switchSampled s with ret := .unit }) ∧
    (s.dir ≠ .down → (s.err ≠ .none ∨ s.cfg.downBound ≤ s.pos) →
      exec (.setDirection .down) s = .next { s with ret := .unit })

/-- R84: already in direction `d`, no output pin changes, no stamp, nothing sampled. -/
def Obligations.SetDirectionIsIdempotent : Prop :=
  ∀ (s : State) (d : Direction), s.dir = d → exec (.setDirection d) s = .next { s with ret := .unit }

/-- R86: `go_home` in each of its cases: permanent fault, switch engaged, homing admitted, homing refused at
U3, already moving Up. -/
def Obligations.GoHomeResult : Prop :=
  ∀ s : State,
    (s.err = .endSwitchFault → exec .goHome s = .next { s with ret := .unit }) ∧
    (s.err ≠ .endSwitchFault → s.endSwitchN = false →
      exec .goHome s = .next { switchSampled s with err := .none, ret := .unit }) ∧
    (s.err ≠ .endSwitchFault → s.endSwitchN = true → posInRange s.cfg s.cfg.downBound = true →
      s.dir ≠ .up → (switchSampled s).endSwitchN = true → s.cfg.upBound < s.cfg.downBound →
      exec .goHome s = .next { switchSampled (switchSampled s) with
        err := .none, pos := s.cfg.downBound, dir := .up, motorUp := true, motorDown := false,
        ltt := s.tick, ret := .unit }) ∧
    (s.err ≠ .endSwitchFault → s.endSwitchN = true → posInRange s.cfg s.cfg.downBound = true →
      s.dir ≠ .up → (switchSampled s).endSwitchN = false →
      exec .goHome s = .next { switchSampled (switchSampled s) with
        err := .none, pos := s.cfg.downBound, ret := .unit }) ∧
    (s.err ≠ .endSwitchFault → s.endSwitchN = true → posInRange s.cfg s.cfg.downBound = true →
      s.dir = .up →
      exec .goHome s = .next { switchSampled s with
        err := .none, pos := s.cfg.downBound, ret := .unit })

/-- R87: a tick counts by the commanded direction and stamps in all three cases. -/
def Obligations.RotationTickResult : Prop :=
  ∀ s : State,
    (s.dir = .neutral → exec .onRotationTick s = .next { s with ltt := s.tick }) ∧
    (s.dir = .down → posInRange s.cfg (s.pos + 1) = true →
      exec .onRotationTick s = .next { s with pos := s.pos + 1, ltt := s.tick }) ∧
    (s.dir = .up → posInRange s.cfg (s.pos - 1) = true →
      exec .onRotationTick s = .next { s with pos := s.pos - 1, ltt := s.tick })

/-- R22: a step that would take `pos` outside the `POS_WIDTH`-bit range is refused, whether a tick, a genuine edge or
the homing of `go_home` takes it there (the constant write: DEDUCED, log 10); it neither wraps nor saturates. -/
def Obligations.PositionOutOfRangeIsRefused : Prop :=
  ∀ (s : State) (level : Bool),
    (s.dir = .down → 2 ^ (s.cfg.posWidth - 1) ≤ s.pos + 1 →
      exec .onRotationTick s = .refused .posOutOfRange) ∧
    (s.dir = .up → s.pos - 1 < -(2 ^ (s.cfg.posWidth - 1)) →
      exec .onRotationTick s = .refused .posOutOfRange) ∧
    (level ≠ s.lastLevel → s.dir = .down → 2 ^ (s.cfg.posWidth - 1) ≤ s.pos + 1 →
      exec (.onComparatorEdge level) s = .refused .posOutOfRange) ∧
    (level ≠ s.lastLevel → s.dir = .up → s.pos - 1 < -(2 ^ (s.cfg.posWidth - 1)) →
      exec (.onComparatorEdge level) s = .refused .posOutOfRange) ∧
    (s.err ≠ .endSwitchFault → s.endSwitchN = true → 2 ^ (s.cfg.posWidth - 1) ≤ s.cfg.downBound →
      exec .goHome s = .refused .posOutOfRange)

/-- R88: `pos` is set to 0 unless the direction is Down; nothing else changes. -/
def Obligations.EndswitchTriggeredResult : Prop :=
  ∀ s : State,
    (s.dir ≠ .down → exec .onEndswitchTriggered s = .next { s with pos := 0, ret := .unit }) ∧
    (s.dir = .down → exec .onEndswitchTriggered s = .next { s with ret := .unit })

/-- R89: the periodic check in each of its cases, in the order stall, overrun, normal limit. -/
def Obligations.CheckStopConditionsResult : Prop :=
  ∀ (s : State) (elapsed stall : Nat), elapsed = (s.tick - s.ltt).toNat →
    stall = s.cfg.stallMs * s.cfg.tickHzNum / (1000 * s.cfg.tickHzDen) →
    (s.dir = .neutral → exec .checkStopConditions s = .next { s with ret := .unit }) ∧
    (s.dir ≠ .neutral → stall < elapsed →
      exec .checkStopConditions s = .next { s with
        dir := .neutral, motorUp := false, motorDown := false, err := .rotationFault, ret := .unit }) ∧
    (s.dir = .up → elapsed ≤ stall → s.pos ≤ s.cfg.upBound →
      exec .checkStopConditions s = .next { s with
        dir := .neutral, motorUp := false, motorDown := false, err := .endSwitchFault, ret := .unit }) ∧
    (s.dir = .up → elapsed ≤ stall → s.cfg.upBound < s.pos → (s.err ≠ .none ∨ s.endSwitchN = false) →
      exec .checkStopConditions s = .next { switchSampled s with
        dir := .neutral, motorUp := false, motorDown := false, ret := .unit }) ∧
    (s.dir = .up → elapsed ≤ stall → s.cfg.upBound < s.pos → s.err = .none → s.endSwitchN = true →
      exec .checkStopConditions s = .next { switchSampled s with ret := .unit }) ∧
    (s.dir = .down → elapsed ≤ stall → (s.err ≠ .none ∨ s.cfg.downBound ≤ s.pos) →
      exec .checkStopConditions s = .next { s with
        dir := .neutral, motorUp := false, motorDown := false, ret := .unit }) ∧
    (s.dir = .down → elapsed ≤ stall → s.err = .none → s.pos < s.cfg.downBound →
      exec .checkStopConditions s = .next { s with ret := .unit })

/-- R90, R96: the two read accessors return their cell and write nothing. -/
def Obligations.AccessorResults : Prop :=
  ∀ s : State,
    exec .error s = .next { s with ret := .err s.err } ∧
    exec .isActive s = .next { s with ret := .bool s.monoActive }

/-- R91, R140: fault entry forces both pins off and Neutral, records the kind, and changes nothing else. The block
itself enters a fault only with no error present; that the operation run alone does so in every state, and may replace
an error, is the model's choice (DESIGN CHOICE, log 17). -/
def Obligations.EnterErrorForcesNeutralAndRecords : Prop :=
  ∀ s : State,
    exec (.enterError .rotationFault) s = .next { s with
      dir := .neutral, motorUp := false, motorDown := false, err := .rotationFault, ret := .unit } ∧
    exec (.enterError .endSwitchFault) s = .next { s with
      dir := .neutral, motorUp := false, motorDown := false, err := .endSwitchFault, ret := .unit }

/-- R89, R139: the stall is decided on the reference read at K1a and the clock read at K1b; a stamp between
the two lines does not suppress the fault. -/
def Obligations.StallIsDecidedOnTheReferenceReadFirst : Prop :=
  ∀ (s : State) (r l : ClockTick), s.fgAt = .k1b r →
    (s.cfg.stallMs * s.cfg.tickHzNum / (1000 * s.cfg.tickHzDen) < (s.tick - r).toNat →
      fgLine { s with ltt := l } = .next { s with
        ltt := l, fgAt := .e1 .rotationFault, callStack := .line .k2 :: s.callStack }) ∧
    ((s.tick - r).toNat ≤ s.cfg.stallMs * s.cfg.tickHzNum / (1000 * s.cfg.tickHzDen) →
      fgLine { s with ltt := l } = .next { s with ltt := l, fgAt := .k2 })

/-- R87, R86, R88: one step moves `pos` only by one tick in the commanded direction, or to 0, to `DOWN_BOUND` or,
by reset, to `POS_RESET`. -/
def Obligations.OnlyTicksAndHomingMoveThePosition : Prop :=
  ∀ s t : State, step s = .next t →
    t.pos = s.pos ∨ (s.dir = .down ∧ t.pos = s.pos + 1) ∨ (s.dir = .up ∧ t.pos = s.pos - 1) ∨
    t.pos = 0 ∨ t.pos = s.cfg.downBound ∨ (t.pos = s.cfg.posReset ∧ t.fgAt = .b1)

/-! ## Monoflop -/

/-- R95: unconditional stamp and set. -/
def Obligations.TriggerStampsAndActivates : Prop :=
  ∀ s : State, exec .trigger s = .next { s with monoTrig := s.tick, monoActive := true, ret := .unit }

/-- R97: cleared when more than `MONO_TICKS` have elapsed, kept otherwise; an inactive latch is left alone. -/
def Obligations.RegularCheckClearsAnExpiredLatch : Prop :=
  ∀ (s : State) (mono : Nat), mono = s.cfg.monoflopMs * s.cfg.tickHzNum / (1000 * s.cfg.tickHzDen) →
    (s.monoActive = true → mono < (s.tick - s.monoTrig).toNat →
      exec .regularCheck s = .next { s with monoActive := false, ret := .unit }) ∧
    (s.monoActive = true → (s.tick - s.monoTrig).toNat ≤ mono →
      exec .regularCheck s = .next { s with ret := .unit }) ∧
    (s.monoActive = false → exec .regularCheck s = .next { s with ret := .unit })

/-- R98, R118: only `trigger`, Off, and On outside a RotationFault open a closed window; the loop opens it only by
dispatching one of the two buttons, read from the line; of the foreground's lines only M2 opens it, and no other
agent's move does. -/
def Obligations.OnlyOnAndOffOpenTheWindow : Prop :=
  (∀ (i : Instr) (s t : State), exec i s = .next t → s.monoActive = false → t.monoActive = true →
    i = .trigger ∨ i = .irOff ∨ i = .dispatch .off ∨
    ((i = .irOn ∨ i = .dispatch .on) ∧ s.err ≠ .rotationFault) ∨
    (i = .loopIteration ∧ s.irLine = false ∧ (scanLine (irSampled s)).returned = true ∧
      ∃ b, b = buttonOf s.cfg (frameValue (scanLine (irSampled s)).frame).1
          (frameValue (scanLine (irSampled s)).frame).2 ∧
        (b = .off ∨ (b = .on ∧ s.err ≠ .rotationFault)))) ∧
  (∀ s t : State, fgLine s = .next t → s.monoActive = false → t.monoActive = true → s.fgAt = .m2) ∧
  (∀ (m : Move) (s t : State), runMove m s = .next t → s.monoActive = false → t.monoActive = true →
    m = .foreground)

/-! ## InfraredDecoder -/

/-- R49, R55, R56, R104, R105: `ir_decode` takes the durations up to the first one over `IR_T_EOF`, at most 32
of them; bit `k` is 1 iff the duration exceeds `IR_T_BIT`, most significant bit first, and the count is of
whole bytes. -/
def Obligations.IrDecodeResult : Prop :=
  ∀ (s : State) (ds : List Nat) (bit eof : Nat),
    bit = s.cfg.irBitPerMhz * s.cfg.fRefNum / s.cfg.fRefDen →
    eof = s.cfg.irEofPerMhz * s.cfg.fRefNum / s.cfg.fRefDen →
    ds = s.argDs.takeWhile (fun d => decide (d ≤ eof)) →
    ∃ buf : FrameBuf,
      exec .irDecode s = .next { s with ret := .frame (min 32 ds.length / 8) buf } ∧
      ∀ k, k < 32 → (frameWord buf.b0 buf.b1 buf.b2 buf.b3).getLsbD (31 - k) =
        (decide (k < ds.length) && decide (bit < ds.getD k 0))

/-- R71, R104: the 32 durations of a word, shortest 1 and longest 0, decode to the word's four bytes. -/
def Obligations.FrameDurationsDecodeToTheWord : Prop :=
  ∀ (cfg : Config) (w : FrameWord), irTBit cfg < irTEof cfg →
    irDecode cfg (frameDurations cfg w) =
      (4, ⟨w.extractLsb' 24 8, w.extractLsb' 16 8, w.extractLsb' 8 8, w.extractLsb' 0 8⟩)

/-- R56, R101, R104: the blocking read on a burst of high phases none over `IR_T_EOF`, the low phases before each and
after the last of any length, also none, returns exactly what `ir_decode` gives for those durations, nothing retained.
The line, whose present level is the burst's first sample, ends the burst by staying high to the end of the listed
levels, or by a high phase sampled past `IR_T_EOF`, and then the levels after it are still on the port. With no phase
at all this is a read entered on an idle line. (All samples taken in one step: DEDUCED, log 4, log 13.) -/
def Obligations.ReadFrameReturnsTheDecodedBurst : Prop :=
  ∀ (s : State) (phases : List (Nat × Nat)) (last : Nat) (burst : List Bool),
    (∀ p ∈ phases, p.2 ≤ irTEof s.cfg) →
    burst = phases.flatMap (fun p => List.replicate p.1 false ++ phaseSamples p.2) ++ List.replicate last false →
    (∀ idle : Nat, idle ≤ irTEof s.cfg → s.irLine :: s.irNext = burst ++ List.replicate (idle + 1) true →
      exec .irReadFrame s = .next { s with
        irLine := true, irNext := [], ir := none,
        ret := .frame (irDecode s.cfg (phases.map Prod.snd)).1 (irDecode s.cfg (phases.map Prod.snd)).2 }) ∧
    (∀ rest : List Bool, s.irLine :: s.irNext = burst ++ List.replicate (irTEof s.cfg + 2) true ++ rest →
      exec .irReadFrame s = .next { s with
        irLine := rest.headD true, irNext := rest.tail, ir := none,
        ret := .frame (irDecode s.cfg (phases.map Prod.snd)).1 (irDecode s.cfg (phases.map Prod.snd)).2 })

/-- R108, R110: on a line that stays low the read never returns: the foreground stands at I1 after any number
of its lines, and nothing of the block changes. -/
def Obligations.ReadOfALowLineNeverReturns : Prop :=
  ∀ s : State, s.irLine = false → s.irNext = [] →
    exec .irReadFrame s = .next { s with
      fgAt := .i1, callStack := .alone s.fgAt :: s.callStack, ir := some IrFrame.zero } ∧
    exec .loopIteration s = .next { s with
      monoActive := latchAfterPoll s,
      fgAt := .i1, callStack := .c2 :: .alone s.fgAt :: s.callStack, ir := some IrFrame.zero } ∧
    (s.fgAt = .i1 → ∀ n, runLines n s = .next s)

/-- R58, R59, R60, R107: with the source's prefix and table, the five known frames give their buttons and every
other frame gives Unknown. -/
def Obligations.DecodeButtonResult : Prop :=
  ∀ (s : State) (w : FrameWord), s.cfg.irPrefix0 = 0xE0#8 → s.cfg.irPrefix1 = 0xD5#8 →
    s.cfg.buttonTable = Config.sourceButtonTable →
    w = frameWord s.argBuf.b0 s.argBuf.b1 s.argBuf.b2 s.argBuf.b3 →
    exec .decodeButton s = .next { s with
      ret := .button (if w = 0xE0D504FB#32 then .on
       else if w = 0xE0D544BB#32 then .off
       else if w = 0xE0D506F9#32 then .up
       else if w = 0xE0D526D9#32 then .down
       else if w = 0xE0D550AF#32 then .set
       else .unknown) }

/-! ## Dispatcher -/

/-- R112: On homes out of a RotationFault without touching the Monoflop; otherwise it requests Down and opens the
window, also where the request is refused or changes nothing. -/
def Obligations.OnCommandResult : Prop :=
  ∀ (s : State) (i : Instr), i = .irOn ∨ i = .dispatch .on →
    (s.err = .rotationFault → exec i s = exec .goHome s) ∧
    (s.err = .none → s.dir ≠ .down → s.pos < s.cfg.downBound →
      exec i s = .next { s with
        dir := .down, motorUp := false, motorDown := true, ltt := s.tick,
        monoTrig := s.tick, monoActive := true, ret := .unit }) ∧
    (s.err ≠ .rotationFault → s.dir ≠ .down → (s.err = .endSwitchFault ∨ s.cfg.downBound ≤ s.pos) →
      exec i s = .next { s with monoTrig := s.tick, monoActive := true, ret := .unit }) ∧
    (s.err ≠ .rotationFault → s.dir = .down →
      exec i s = .next { s with monoTrig := s.tick, monoActive := true, ret := .unit })

/-- R113: Off requests Up and opens the window in every case; it never homes. -/
def Obligations.OffCommandResult : Prop :=
  ∀ (s : State) (i : Instr), i = .irOff ∨ i = .dispatch .off →
    (s.err = .none → s.dir ≠ .up → s.cfg.upBound < s.pos → s.endSwitchN = true →
      exec i s = .next { switchSampled s with
        dir := .up, motorUp := true, motorDown := false, ltt := s.tick,
        monoTrig := s.tick, monoActive := true, ret := .unit }) ∧
    (s.dir ≠ .up → (s.err ≠ .none ∨ s.pos ≤ s.cfg.upBound ∨ s.endSwitchN = false) →
      exec i s = .next { switchSampled s with monoTrig := s.tick, monoActive := true, ret := .unit }) ∧
    (s.dir = .up → exec i s = .next { s with monoTrig := s.tick, monoActive := true, ret := .unit })

/-- R114, R115: inside the window Up and Down request their direction; outside it they force Neutral. The window
is not extended. -/
def Obligations.UpAndDownCommandResult : Prop :=
  ∀ (s : State) (i : Instr),
    ((i = .irUp ∨ i = .dispatch .up ∨ i = .irDown ∨ i = .dispatch .down) → s.monoActive = false →
      exec i s = .next { s with
        dir := .neutral,
        motorUp := (if s.dir = .neutral then s.motorUp else false),
        motorDown := (if s.dir = .neutral then s.motorDown else false), ret := .unit }) ∧
    ((i = .irUp ∨ i = .dispatch .up) → s.monoActive = true →
      s.err = .none → s.dir ≠ .up → s.cfg.upBound < s.pos → s.endSwitchN = true →
      exec i s = .next { switchSampled s with
        dir := .up, motorUp := true, motorDown := false, ltt := s.tick, ret := .unit }) ∧
    ((i = .irUp ∨ i = .dispatch .up) → s.monoActive = true → exec i s = exec (.setDirection .up) s) ∧
    ((i = .irDown ∨ i = .dispatch .down) → s.monoActive = true →
      s.err = .none → s.dir ≠ .down → s.pos < s.cfg.downBound →
      exec i s = .next { s with
        dir := .down, motorUp := false, motorDown := true, ltt := s.tick, ret := .unit }) ∧
    ((i = .irDown ∨ i = .dispatch .down) → s.monoActive = true → exec i s = exec (.setDirection .down) s)

/-- R116, R117: Set changes nothing; Unknown, whatever its word, forces Neutral and touches neither the Monoflop
nor the error. -/
def Obligations.SetAndUnknownCommandResult : Prop :=
  ∀ (s : State) (i : Instr),
    ((i = .irSet ∨ i = .dispatch .set) → exec i s = .next { s with ret := .unit }) ∧
    (((∃ w, i = .irUnknown w) ∨ i = .dispatch .unknown) → s.dir ≠ .neutral →
      exec i s = .next { s with
        dir := .neutral, motorUp := false, motorDown := false, ret := .unit }) ∧
    (((∃ w, i = .irUnknown w) ∨ i = .dispatch .unknown) → s.dir = .neutral →
      exec i s = .next { s with ret := .unit })

/-! ## RotationEdgeHandler -/

/-- R120, R121, R122: every event toggles the bias; only an event whose level differs from the last forwarded one
counts and stamps. Nothing else of the block is written. -/
def Obligations.ComparatorEdgeResult : Prop :=
  ∀ (s : State) (level : Bool),
    (level = s.lastLevel →
      exec (.onComparatorEdge level) s = .next { s with biasReg := !s.biasReg, bias := !s.biasReg }) ∧
    (level ≠ s.lastLevel → s.dir = .neutral →
      exec (.onComparatorEdge level) s = .next { s with
        biasReg := !s.biasReg, bias := !s.biasReg, lastLevel := level, ltt := s.tick }) ∧
    (level ≠ s.lastLevel → s.dir = .down → posInRange s.cfg (s.pos + 1) = true →
      exec (.onComparatorEdge level) s = .next { s with
        biasReg := !s.biasReg, bias := !s.biasReg, lastLevel := level, pos := s.pos + 1, ltt := s.tick }) ∧
    (level ≠ s.lastLevel → s.dir = .up → posInRange s.cfg (s.pos - 1) = true →
      exec (.onComparatorEdge level) s = .next { s with
        biasReg := !s.biasReg, bias := !s.biasReg, lastLevel := level, pos := s.pos - 1, ltt := s.tick })

/-! ## Control loop -/

/-- R125, R127, R130: an iteration with the line idle and the motor in Neutral polls the latch, zeroes `pos` if the
switch reads engaged, and drives the LED; nothing else changes. -/
def Obligations.IdleIterationResult : Prop :=
  ∀ s : State, s.irLine = true → s.dir = .neutral →
    exec .loopIteration s = .next { irSampled (switchSampled s) with
      monoActive := latchAfterPoll s,
      pos := (if s.endSwitchN then s.pos else 0),
      statusLed := (match s.err with
        | .rotationFault => s.tick.getLsbD s.cfg.ledFastBit
        | .endSwitchFault => s.tick.getLsbD s.cfg.ledSlowBit
        | .none => latchAfterPoll s),
      ret := .unit }

/-- R127, R128: moving Up onto an engaged switch ends in a normal stop at position 0 with no fault, even from a
position past the bound. -/
def Obligations.HomingIterationStopsWithoutFault : Prop :=
  ∀ s : State, s.irLine = true → s.dir = .up → s.err = .none → s.cfg.upBound < 0 →
    s.endSwitchN = false → (switchSampled s).endSwitchN = false →
    (s.tick - s.ltt).toNat ≤ s.cfg.stallMs * s.cfg.tickHzNum / (1000 * s.cfg.tickHzDen) →
    exec .loopIteration s = .next { irSampled (switchSampled (switchSampled s)) with
      monoActive := latchAfterPoll s, pos := 0, dir := .neutral, motorUp := false, motorDown := false,
      statusLed := latchAfterPoll s, ret := .unit }

/-- R106, R126: a noise pulse, a low sample followed by an idle line, is dispatched as Unknown and stops a moving
screen. -/
def Obligations.NoisePulseStopsTheScreen : Prop :=
  ∀ s : State, s.irLine = false → s.irNext = [true] → s.endSwitchN = true → s.err = .none →
    s.dir ≠ .neutral →
    exec .loopIteration s = .next { switchSampled s with
      irLine := true, irNext := [], ir := none,
      monoActive := latchAfterPoll s, dir := .neutral, motorUp := false, motorDown := false,
      statusLed := latchAfterPoll s, ret := .unit }

/-- R112, R126: a whole On frame caught by the loop lowers an idle screen and opens the window, the frame having
gone through the waveform, the decoder, the button table and the dispatcher. -/
def Obligations.PressOnLowersTheScreen : Prop :=
  ∀ s : State, s.cfg.irPrefix0 = 0xE0#8 → s.cfg.irPrefix1 = 0xD5#8 →
    s.cfg.buttonTable = Config.sourceButtonTable → irTBit s.cfg < irTEof s.cfg →
    s.irLine = false → s.irNext = waveSamples (frameDurations s.cfg 0xE0D504FB#32) →
    s.dir = .neutral → s.err = .none → s.pos < s.cfg.downBound → s.endSwitchN = true →
    exec .loopIteration s = .next { switchSampled s with
      irLine := true, irNext := [], ir := none,
      dir := .down, motorUp := false, motorDown := true, ltt := s.tick,
      monoTrig := s.tick, monoActive := true, statusLed := true, ret := .unit }

/-- R130: the LED's value (the spec's decision D15), returned with nothing written. -/
def Obligations.LedValueResult : Prop :=
  ∀ s : State,
    (s.err = .rotationFault →
      exec .ledValue s = .next { s with ret := .bool (s.tick.getLsbD s.cfg.ledFastBit) }) ∧
    (s.err = .endSwitchFault →
      exec .ledValue s = .next { s with ret := .bool (s.tick.getLsbD s.cfg.ledSlowBit) }) ∧
    (s.err = .none → exec .ledValue s = .next { s with ret := .bool s.monoActive })

/-! ## The foreground line by line -/

/-- R26, R42, R70: the lines of an operation, run with no other agent between them, have exactly the effect exec
gives that operation, and leave the foreground where it was. -/
def Obligations.LinesRunAloneAreTheOperation : Prop :=
  ∀ (i : Instr) (l : Line) (s : State), entryLine i = some l → i ≠ .irReadFrame → i ≠ .loopIteration →
    ∃ n, runLines n (invoke l s) = exec i s

/-- R101: the lines of the blocking read reach exactly the state exec gives, returned or waiting at I1. -/
def Obligations.ReadLinesRunAloneAreTheRead : Prop :=
  ∀ s : State, ∃ n, runLines n (invoke .i0 s) = exec .irReadFrame s

/-- R125: the lines of a whole iteration, its infrared read included, reach exactly the state exec gives. Where the
read returns, so do the lines of the loop itself, from C1 with nothing called to C1 with nothing called; they return no
value (R70, log 25). -/
def Obligations.LoopLinesRunAloneAreTheIteration : Prop :=
  (∀ s : State, ∃ n, runLines n (invoke .c1 s) = exec .loopIteration s) ∧
  (∀ s t : State, s.fgAt = .c1 → s.callStack = [] → exec .loopIteration s = .next t → t.fgAt = .c1 →
    ∃ n, 0 < n ∧ runLines n s = .next { t with ret := s.ret })

/-- R42, R48: a timer step commutes with every foreground line that reads no clock. -/
def Obligations.TimerCommutesWithLinesThatReadNoClock : Prop :=
  ∀ s : State, readsClock s.fgAt = false →
    andThen (fgLine s) (fun t => .next (timerStep t)) = fgLine (timerStep s)

/-- R48: a handler run commutes with every foreground line that does not write `dir` and neither reads nor writes
`pos` or `ltt`. -/
def Obligations.HandlerCommutesWithLinesThatShareNothing : Prop :=
  ∀ (s : State) (level : Bool), touchesShared s.fgAt = false →
    andThen (fgLine s) (onComparatorEdge level) = andThen (onComparatorEdge level s) fgLine

/-! ## Invariants -/

/-- R21, R33, R85, R91: the motor invariant is kept by every step: any line, any interrupt, any timer step, any
input, any reset, any operation run alone. -/
def Obligations.EveryStepKeepsTheMotorInvariant : Prop :=
  ∀ s t : State, MotorInv s → step s = .next t → MotorInv t

/-- R21, R22, R24, R33: the motor invariant and the ranges hold after reset, for every well-formed configuration
and draw. -/
def Obligations.InvariantsHoldAtReset : Prop :=
  (∀ (cfg : Config) (dr : ResetDraws), MotorInv (State.resetWith cfg dr) ∧
    FrameInv (State.resetWith cfg dr) ∧
    (configOk cfg = true → PosInv (State.resetWith cfg dr))) ∧
  MotorInv State.reset ∧ PosInv State.reset ∧ FrameInv State.reset

/-- R33, R21: under the invariant both pins are never on, at any line; and at the lines of the loop body the pins
encode the direction and an error goes with Neutral. -/
def Obligations.MotorInvariantExcludesBothPins : Prop :=
  ∀ s : State, MotorInv s →
    ¬ (s.motorUp = true ∧ s.motorDown = true) ∧
    (isLoopLine s.fgAt = true →
      s.motorUp = decide (s.dir = .up) ∧ s.motorDown = decide (s.dir = .down) ∧
      (s.err ≠ .none → s.dir = .neutral))

/-- R22, R24: every step keeps `pos` in range and the frame in progress within 32 bits. -/
def Obligations.EveryStepKeepsTheRanges : Prop :=
  ∀ s t : State, PosInv s → FrameInv s → step s = .next t → PosInv t ∧ FrameInv t

/-- R142: under the motor invariant EndSwitchFault survives every step but a reset, and the screen stays in
Neutral. `enter_error` called alone from a script, which the block itself calls only with no error present
(R91), is left out (log 17). -/
def Obligations.EndSwitchFaultIsPermanent : Prop :=
  ∀ s t : State, MotorInv s → s.err = .endSwitchFault → step s = .next t →
    (∀ rest, s.stimuli ≠ .move .reset :: rest) →
    (s.stimuli = [] → Config.freeMove s.draws ≠ .reset) →
    (∀ l more rest, s.stimuli ≠ .iter ((l, .reset) :: more) :: rest ∧
      s.stimuli ≠ .iterating ((l, .reset) :: more) :: rest) →
    (∀ k bytes rest, s.stimuli = .code bytes :: rest → decode bytes ≠ .ok (.enterError k)) →
    t.err = .endSwitchFault ∧ t.dir = .neutral

/-- R29: no step changes the configuration. -/
def Obligations.ConfigurationIsNeverWritten : Prop :=
  ∀ s t : State, step s = .next t → t.cfg = s.cfg
end

