-- ==== Sys2Proof/Laws/State.lean ====
section
/-! SUPPORT. What each named update of State does to each field (one lemma per field and update), so that a later
proof rewrites with these and does not unfold a record update. -/

namespace Sys2Proof.Machine

/-! ## `pinWrite` -/

@[simp] theorem pinWrite_tick (p : OutPort) (v : Bool) (s : State) : (pinWrite p v s).tick = s.tick := by
  cases p <;> rfl
@[simp] theorem pinWrite_dir (p : OutPort) (v : Bool) (s : State) : (pinWrite p v s).dir = s.dir := by
  cases p <;> rfl
@[simp] theorem pinWrite_err (p : OutPort) (v : Bool) (s : State) : (pinWrite p v s).err = s.err := by
  cases p <;> rfl
@[simp] theorem pinWrite_pos (p : OutPort) (v : Bool) (s : State) : (pinWrite p v s).pos = s.pos := by
  cases p <;> rfl
@[simp] theorem pinWrite_ltt (p : OutPort) (v : Bool) (s : State) : (pinWrite p v s).ltt = s.ltt := by
  cases p <;> rfl
@[simp] theorem pinWrite_monoTrig (p : OutPort) (v : Bool) (s : State) : (pinWrite p v s).monoTrig = s.monoTrig := by
  cases p <;> rfl
@[simp] theorem pinWrite_monoActive (p : OutPort) (v : Bool) (s : State) : (pinWrite p v s).monoActive = s.monoActive := by
  cases p <;> rfl
@[simp] theorem pinWrite_ir (p : OutPort) (v : Bool) (s : State) : (pinWrite p v s).ir = s.ir := by
  cases p <;> rfl
@[simp] theorem pinWrite_biasReg (p : OutPort) (v : Bool) (s : State) : (pinWrite p v s).biasReg = s.biasReg := by
  cases p <;> rfl
@[simp] theorem pinWrite_lastLevel (p : OutPort) (v : Bool) (s : State) : (pinWrite p v s).lastLevel = s.lastLevel := by
  cases p <;> rfl
@[simp] theorem pinWrite_fgAt (p : OutPort) (v : Bool) (s : State) : (pinWrite p v s).fgAt = s.fgAt := by
  cases p <;> rfl
@[simp] theorem pinWrite_callStack (p : OutPort) (v : Bool) (s : State) : (pinWrite p v s).callStack = s.callStack := by
  cases p <;> rfl
@[simp] theorem pinWrite_irqEnabled (p : OutPort) (v : Bool) (s : State) : (pinWrite p v s).irqEnabled = s.irqEnabled := by
  cases p <;> rfl
@[simp] theorem pinWrite_cfg (p : OutPort) (v : Bool) (s : State) : (pinWrite p v s).cfg = s.cfg := by
  cases p <;> rfl
@[simp] theorem pinWrite_irLine (p : OutPort) (v : Bool) (s : State) : (pinWrite p v s).irLine = s.irLine := by
  cases p <;> rfl
@[simp] theorem pinWrite_irNext (p : OutPort) (v : Bool) (s : State) : (pinWrite p v s).irNext = s.irNext := by
  cases p <;> rfl
@[simp] theorem pinWrite_endSwitchN (p : OutPort) (v : Bool) (s : State) : (pinWrite p v s).endSwitchN = s.endSwitchN := by
  cases p <;> rfl
@[simp] theorem pinWrite_swNext (p : OutPort) (v : Bool) (s : State) : (pinWrite p v s).swNext = s.swNext := by
  cases p <;> rfl
@[simp] theorem pinWrite_stimuli (p : OutPort) (v : Bool) (s : State) : (pinWrite p v s).stimuli = s.stimuli := by
  cases p <;> rfl
@[simp] theorem pinWrite_draws (p : OutPort) (v : Bool) (s : State) : (pinWrite p v s).draws = s.draws := by
  cases p <;> rfl
@[simp] theorem pinWrite_argLater (p : OutPort) (v : Bool) (s : State) : (pinWrite p v s).argLater = s.argLater := by
  cases p <;> rfl
@[simp] theorem pinWrite_argEarlier (p : OutPort) (v : Bool) (s : State) : (pinWrite p v s).argEarlier = s.argEarlier := by
  cases p <;> rfl
@[simp] theorem pinWrite_argMs (p : OutPort) (v : Bool) (s : State) : (pinWrite p v s).argMs = s.argMs := by
  cases p <;> rfl
@[simp] theorem pinWrite_argDs (p : OutPort) (v : Bool) (s : State) : (pinWrite p v s).argDs = s.argDs := by
  cases p <;> rfl
@[simp] theorem pinWrite_argBuf (p : OutPort) (v : Bool) (s : State) : (pinWrite p v s).argBuf = s.argBuf := by
  cases p <;> rfl
@[simp] theorem pinWrite_ret (p : OutPort) (v : Bool) (s : State) : (pinWrite p v s).ret = s.ret := by
  cases p <;> rfl
@[simp] theorem pinWrite_motorUp_motorUp (v : Bool) (s : State) : (pinWrite .motorUp v s).motorUp = v := rfl
@[simp] theorem pinWrite_motorUp_motorDown (v : Bool) (s : State) : (pinWrite .motorUp v s).motorDown = s.motorDown := rfl
@[simp] theorem pinWrite_motorUp_bias (v : Bool) (s : State) : (pinWrite .motorUp v s).bias = s.bias := rfl
@[simp] theorem pinWrite_motorUp_statusLed (v : Bool) (s : State) : (pinWrite .motorUp v s).statusLed = s.statusLed := rfl
@[simp] theorem pinWrite_motorDown_motorUp (v : Bool) (s : State) : (pinWrite .motorDown v s).motorUp = s.motorUp := rfl
@[simp] theorem pinWrite_motorDown_motorDown (v : Bool) (s : State) : (pinWrite .motorDown v s).motorDown = v := rfl
@[simp] theorem pinWrite_motorDown_bias (v : Bool) (s : State) : (pinWrite .motorDown v s).bias = s.bias := rfl
@[simp] theorem pinWrite_motorDown_statusLed (v : Bool) (s : State) : (pinWrite .motorDown v s).statusLed = s.statusLed := rfl
@[simp] theorem pinWrite_bias_motorUp (v : Bool) (s : State) : (pinWrite .bias v s).motorUp = s.motorUp := rfl
@[simp] theorem pinWrite_bias_motorDown (v : Bool) (s : State) : (pinWrite .bias v s).motorDown = s.motorDown := rfl
@[simp] theorem pinWrite_bias_bias (v : Bool) (s : State) : (pinWrite .bias v s).bias = v := rfl
@[simp] theorem pinWrite_bias_statusLed (v : Bool) (s : State) : (pinWrite .bias v s).statusLed = s.statusLed := rfl
@[simp] theorem pinWrite_statusLed_motorUp (v : Bool) (s : State) : (pinWrite .statusLed v s).motorUp = s.motorUp := rfl
@[simp] theorem pinWrite_statusLed_motorDown (v : Bool) (s : State) : (pinWrite .statusLed v s).motorDown = s.motorDown := rfl
@[simp] theorem pinWrite_statusLed_bias (v : Bool) (s : State) : (pinWrite .statusLed v s).bias = s.bias := rfl
@[simp] theorem pinWrite_statusLed_statusLed (v : Bool) (s : State) : (pinWrite .statusLed v s).statusLed = v := rfl

/-! ## `writeDir` -/

@[simp] theorem writeDir_tick (d : Direction) (s : State) : (writeDir d s).tick = s.tick := rfl
@[simp] theorem writeDir_dir (d : Direction) (s : State) : (writeDir d s).dir = d := rfl
@[simp] theorem writeDir_err (d : Direction) (s : State) : (writeDir d s).err = s.err := rfl
@[simp] theorem writeDir_pos (d : Direction) (s : State) : (writeDir d s).pos = s.pos := rfl
@[simp] theorem writeDir_ltt (d : Direction) (s : State) : (writeDir d s).ltt = s.ltt := rfl
@[simp] theorem writeDir_monoTrig (d : Direction) (s : State) : (writeDir d s).monoTrig = s.monoTrig := rfl
@[simp] theorem writeDir_monoActive (d : Direction) (s : State) : (writeDir d s).monoActive = s.monoActive := rfl
@[simp] theorem writeDir_ir (d : Direction) (s : State) : (writeDir d s).ir = s.ir := rfl
@[simp] theorem writeDir_biasReg (d : Direction) (s : State) : (writeDir d s).biasReg = s.biasReg := rfl
@[simp] theorem writeDir_lastLevel (d : Direction) (s : State) : (writeDir d s).lastLevel = s.lastLevel := rfl
@[simp] theorem writeDir_fgAt (d : Direction) (s : State) : (writeDir d s).fgAt = s.fgAt := rfl
@[simp] theorem writeDir_callStack (d : Direction) (s : State) : (writeDir d s).callStack = s.callStack := rfl
@[simp] theorem writeDir_motorUp (d : Direction) (s : State) : (writeDir d s).motorUp = s.motorUp := rfl
@[simp] theorem writeDir_motorDown (d : Direction) (s : State) : (writeDir d s).motorDown = s.motorDown := rfl
@[simp] theorem writeDir_bias (d : Direction) (s : State) : (writeDir d s).bias = s.bias := rfl
@[simp] theorem writeDir_statusLed (d : Direction) (s : State) : (writeDir d s).statusLed = s.statusLed := rfl
@[simp] theorem writeDir_irqEnabled (d : Direction) (s : State) : (writeDir d s).irqEnabled = s.irqEnabled := rfl
@[simp] theorem writeDir_cfg (d : Direction) (s : State) : (writeDir d s).cfg = s.cfg := rfl
@[simp] theorem writeDir_irLine (d : Direction) (s : State) : (writeDir d s).irLine = s.irLine := rfl
@[simp] theorem writeDir_irNext (d : Direction) (s : State) : (writeDir d s).irNext = s.irNext := rfl
@[simp] theorem writeDir_endSwitchN (d : Direction) (s : State) : (writeDir d s).endSwitchN = s.endSwitchN := rfl
@[simp] theorem writeDir_swNext (d : Direction) (s : State) : (writeDir d s).swNext = s.swNext := rfl
@[simp] theorem writeDir_stimuli (d : Direction) (s : State) : (writeDir d s).stimuli = s.stimuli := rfl
@[simp] theorem writeDir_draws (d : Direction) (s : State) : (writeDir d s).draws = s.draws := rfl
@[simp] theorem writeDir_argLater (d : Direction) (s : State) : (writeDir d s).argLater = s.argLater := rfl
@[simp] theorem writeDir_argEarlier (d : Direction) (s : State) : (writeDir d s).argEarlier = s.argEarlier := rfl
@[simp] theorem writeDir_argMs (d : Direction) (s : State) : (writeDir d s).argMs = s.argMs := rfl
@[simp] theorem writeDir_argDs (d : Direction) (s : State) : (writeDir d s).argDs = s.argDs := rfl
@[simp] theorem writeDir_argBuf (d : Direction) (s : State) : (writeDir d s).argBuf = s.argBuf := rfl
@[simp] theorem writeDir_ret (d : Direction) (s : State) : (writeDir d s).ret = s.ret := rfl

/-! ## `writeErr` -/

@[simp] theorem writeErr_tick (k : ErrorKind) (s : State) : (writeErr k s).tick = s.tick := rfl
@[simp] theorem writeErr_dir (k : ErrorKind) (s : State) : (writeErr k s).dir = s.dir := rfl
@[simp] theorem writeErr_err (k : ErrorKind) (s : State) : (writeErr k s).err = k := rfl
@[simp] theorem writeErr_pos (k : ErrorKind) (s : State) : (writeErr k s).pos = s.pos := rfl
@[simp] theorem writeErr_ltt (k : ErrorKind) (s : State) : (writeErr k s).ltt = s.ltt := rfl
@[simp] theorem writeErr_monoTrig (k : ErrorKind) (s : State) : (writeErr k s).monoTrig = s.monoTrig := rfl
@[simp] theorem writeErr_monoActive (k : ErrorKind) (s : State) : (writeErr k s).monoActive = s.monoActive := rfl
@[simp] theorem writeErr_ir (k : ErrorKind) (s : State) : (writeErr k s).ir = s.ir := rfl
@[simp] theorem writeErr_biasReg (k : ErrorKind) (s : State) : (writeErr k s).biasReg = s.biasReg := rfl
@[simp] theorem writeErr_lastLevel (k : ErrorKind) (s : State) : (writeErr k s).lastLevel = s.lastLevel := rfl
@[simp] theorem writeErr_fgAt (k : ErrorKind) (s : State) : (writeErr k s).fgAt = s.fgAt := rfl
@[simp] theorem writeErr_callStack (k : ErrorKind) (s : State) : (writeErr k s).callStack = s.callStack := rfl
@[simp] theorem writeErr_motorUp (k : ErrorKind) (s : State) : (writeErr k s).motorUp = s.motorUp := rfl
@[simp] theorem writeErr_motorDown (k : ErrorKind) (s : State) : (writeErr k s).motorDown = s.motorDown := rfl
@[simp] theorem writeErr_bias (k : ErrorKind) (s : State) : (writeErr k s).bias = s.bias := rfl
@[simp] theorem writeErr_statusLed (k : ErrorKind) (s : State) : (writeErr k s).statusLed = s.statusLed := rfl
@[simp] theorem writeErr_irqEnabled (k : ErrorKind) (s : State) : (writeErr k s).irqEnabled = s.irqEnabled := rfl
@[simp] theorem writeErr_cfg (k : ErrorKind) (s : State) : (writeErr k s).cfg = s.cfg := rfl
@[simp] theorem writeErr_irLine (k : ErrorKind) (s : State) : (writeErr k s).irLine = s.irLine := rfl
@[simp] theorem writeErr_irNext (k : ErrorKind) (s : State) : (writeErr k s).irNext = s.irNext := rfl
@[simp] theorem writeErr_endSwitchN (k : ErrorKind) (s : State) : (writeErr k s).endSwitchN = s.endSwitchN := rfl
@[simp] theorem writeErr_swNext (k : ErrorKind) (s : State) : (writeErr k s).swNext = s.swNext := rfl
@[simp] theorem writeErr_stimuli (k : ErrorKind) (s : State) : (writeErr k s).stimuli = s.stimuli := rfl
@[simp] theorem writeErr_draws (k : ErrorKind) (s : State) : (writeErr k s).draws = s.draws := rfl
@[simp] theorem writeErr_argLater (k : ErrorKind) (s : State) : (writeErr k s).argLater = s.argLater := rfl
@[simp] theorem writeErr_argEarlier (k : ErrorKind) (s : State) : (writeErr k s).argEarlier = s.argEarlier := rfl
@[simp] theorem writeErr_argMs (k : ErrorKind) (s : State) : (writeErr k s).argMs = s.argMs := rfl
@[simp] theorem writeErr_argDs (k : ErrorKind) (s : State) : (writeErr k s).argDs = s.argDs := rfl
@[simp] theorem writeErr_argBuf (k : ErrorKind) (s : State) : (writeErr k s).argBuf = s.argBuf := rfl
@[simp] theorem writeErr_ret (k : ErrorKind) (s : State) : (writeErr k s).ret = s.ret := rfl

/-! ## `stampLtt` -/

@[simp] theorem stampLtt_tick (s : State) : (stampLtt s).tick = s.tick := rfl
@[simp] theorem stampLtt_dir (s : State) : (stampLtt s).dir = s.dir := rfl
@[simp] theorem stampLtt_err (s : State) : (stampLtt s).err = s.err := rfl
@[simp] theorem stampLtt_pos (s : State) : (stampLtt s).pos = s.pos := rfl
@[simp] theorem stampLtt_ltt (s : State) : (stampLtt s).ltt = s.tick := rfl
@[simp] theorem stampLtt_monoTrig (s : State) : (stampLtt s).monoTrig = s.monoTrig := rfl
@[simp] theorem stampLtt_monoActive (s : State) : (stampLtt s).monoActive = s.monoActive := rfl
@[simp] theorem stampLtt_ir (s : State) : (stampLtt s).ir = s.ir := rfl
@[simp] theorem stampLtt_biasReg (s : State) : (stampLtt s).biasReg = s.biasReg := rfl
@[simp] theorem stampLtt_lastLevel (s : State) : (stampLtt s).lastLevel = s.lastLevel := rfl
@[simp] theorem stampLtt_fgAt (s : State) : (stampLtt s).fgAt = s.fgAt := rfl
@[simp] theorem stampLtt_callStack (s : State) : (stampLtt s).callStack = s.callStack := rfl
@[simp] theorem stampLtt_motorUp (s : State) : (stampLtt s).motorUp = s.motorUp := rfl
@[simp] theorem stampLtt_motorDown (s : State) : (stampLtt s).motorDown = s.motorDown := rfl
@[simp] theorem stampLtt_bias (s : State) : (stampLtt s).bias = s.bias := rfl
@[simp] theorem stampLtt_statusLed (s : State) : (stampLtt s).statusLed = s.statusLed := rfl
@[simp] theorem stampLtt_irqEnabled (s : State) : (stampLtt s).irqEnabled = s.irqEnabled := rfl
@[simp] theorem stampLtt_cfg (s : State) : (stampLtt s).cfg = s.cfg := rfl
@[simp] theorem stampLtt_irLine (s : State) : (stampLtt s).irLine = s.irLine := rfl
@[simp] theorem stampLtt_irNext (s : State) : (stampLtt s).irNext = s.irNext := rfl
@[simp] theorem stampLtt_endSwitchN (s : State) : (stampLtt s).endSwitchN = s.endSwitchN := rfl
@[simp] theorem stampLtt_swNext (s : State) : (stampLtt s).swNext = s.swNext := rfl
@[simp] theorem stampLtt_stimuli (s : State) : (stampLtt s).stimuli = s.stimuli := rfl
@[simp] theorem stampLtt_draws (s : State) : (stampLtt s).draws = s.draws := rfl
@[simp] theorem stampLtt_argLater (s : State) : (stampLtt s).argLater = s.argLater := rfl
@[simp] theorem stampLtt_argEarlier (s : State) : (stampLtt s).argEarlier = s.argEarlier := rfl
@[simp] theorem stampLtt_argMs (s : State) : (stampLtt s).argMs = s.argMs := rfl
@[simp] theorem stampLtt_argDs (s : State) : (stampLtt s).argDs = s.argDs := rfl
@[simp] theorem stampLtt_argBuf (s : State) : (stampLtt s).argBuf = s.argBuf := rfl
@[simp] theorem stampLtt_ret (s : State) : (stampLtt s).ret = s.ret := rfl

/-! ## `stampMono` -/

@[simp] theorem stampMono_tick (s : State) : (stampMono s).tick = s.tick := rfl
@[simp] theorem stampMono_dir (s : State) : (stampMono s).dir = s.dir := rfl
@[simp] theorem stampMono_err (s : State) : (stampMono s).err = s.err := rfl
@[simp] theorem stampMono_pos (s : State) : (stampMono s).pos = s.pos := rfl
@[simp] theorem stampMono_ltt (s : State) : (stampMono s).ltt = s.ltt := rfl
@[simp] theorem stampMono_monoTrig (s : State) : (stampMono s).monoTrig = s.tick := rfl
@[simp] theorem stampMono_monoActive (s : State) : (stampMono s).monoActive = s.monoActive := rfl
@[simp] theorem stampMono_ir (s : State) : (stampMono s).ir = s.ir := rfl
@[simp] theorem stampMono_biasReg (s : State) : (stampMono s).biasReg = s.biasReg := rfl
@[simp] theorem stampMono_lastLevel (s : State) : (stampMono s).lastLevel = s.lastLevel := rfl
@[simp] theorem stampMono_fgAt (s : State) : (stampMono s).fgAt = s.fgAt := rfl
@[simp] theorem stampMono_callStack (s : State) : (stampMono s).callStack = s.callStack := rfl
@[simp] theorem stampMono_motorUp (s : State) : (stampMono s).motorUp = s.motorUp := rfl
@[simp] theorem stampMono_motorDown (s : State) : (stampMono s).motorDown = s.motorDown := rfl
@[simp] theorem stampMono_bias (s : State) : (stampMono s).bias = s.bias := rfl
@[simp] theorem stampMono_statusLed (s : State) : (stampMono s).statusLed = s.statusLed := rfl
@[simp] theorem stampMono_irqEnabled (s : State) : (stampMono s).irqEnabled = s.irqEnabled := rfl
@[simp] theorem stampMono_cfg (s : State) : (stampMono s).cfg = s.cfg := rfl
@[simp] theorem stampMono_irLine (s : State) : (stampMono s).irLine = s.irLine := rfl
@[simp] theorem stampMono_irNext (s : State) : (stampMono s).irNext = s.irNext := rfl
@[simp] theorem stampMono_endSwitchN (s : State) : (stampMono s).endSwitchN = s.endSwitchN := rfl
@[simp] theorem stampMono_swNext (s : State) : (stampMono s).swNext = s.swNext := rfl
@[simp] theorem stampMono_stimuli (s : State) : (stampMono s).stimuli = s.stimuli := rfl
@[simp] theorem stampMono_draws (s : State) : (stampMono s).draws = s.draws := rfl
@[simp] theorem stampMono_argLater (s : State) : (stampMono s).argLater = s.argLater := rfl
@[simp] theorem stampMono_argEarlier (s : State) : (stampMono s).argEarlier = s.argEarlier := rfl
@[simp] theorem stampMono_argMs (s : State) : (stampMono s).argMs = s.argMs := rfl
@[simp] theorem stampMono_argDs (s : State) : (stampMono s).argDs = s.argDs := rfl
@[simp] theorem stampMono_argBuf (s : State) : (stampMono s).argBuf = s.argBuf := rfl
@[simp] theorem stampMono_ret (s : State) : (stampMono s).ret = s.ret := rfl

/-! ## `writeActive` -/

@[simp] theorem writeActive_tick (b : Bool) (s : State) : (writeActive b s).tick = s.tick := rfl
@[simp] theorem writeActive_dir (b : Bool) (s : State) : (writeActive b s).dir = s.dir := rfl
@[simp] theorem writeActive_err (b : Bool) (s : State) : (writeActive b s).err = s.err := rfl
@[simp] theorem writeActive_pos (b : Bool) (s : State) : (writeActive b s).pos = s.pos := rfl
@[simp] theorem writeActive_ltt (b : Bool) (s : State) : (writeActive b s).ltt = s.ltt := rfl
@[simp] theorem writeActive_monoTrig (b : Bool) (s : State) : (writeActive b s).monoTrig = s.monoTrig := rfl
@[simp] theorem writeActive_monoActive (b : Bool) (s : State) : (writeActive b s).monoActive = b := rfl
@[simp] theorem writeActive_ir (b : Bool) (s : State) : (writeActive b s).ir = s.ir := rfl
@[simp] theorem writeActive_biasReg (b : Bool) (s : State) : (writeActive b s).biasReg = s.biasReg := rfl
@[simp] theorem writeActive_lastLevel (b : Bool) (s : State) : (writeActive b s).lastLevel = s.lastLevel := rfl
@[simp] theorem writeActive_fgAt (b : Bool) (s : State) : (writeActive b s).fgAt = s.fgAt := rfl
@[simp] theorem writeActive_callStack (b : Bool) (s : State) : (writeActive b s).callStack = s.callStack := rfl
@[simp] theorem writeActive_motorUp (b : Bool) (s : State) : (writeActive b s).motorUp = s.motorUp := rfl
@[simp] theorem writeActive_motorDown (b : Bool) (s : State) : (writeActive b s).motorDown = s.motorDown := rfl
@[simp] theorem writeActive_bias (b : Bool) (s : State) : (writeActive b s).bias = s.bias := rfl
@[simp] theorem writeActive_statusLed (b : Bool) (s : State) : (writeActive b s).statusLed = s.statusLed := rfl
@[simp] theorem writeActive_irqEnabled (b : Bool) (s : State) : (writeActive b s).irqEnabled = s.irqEnabled := rfl
@[simp] theorem writeActive_cfg (b : Bool) (s : State) : (writeActive b s).cfg = s.cfg := rfl
@[simp] theorem writeActive_irLine (b : Bool) (s : State) : (writeActive b s).irLine = s.irLine := rfl
@[simp] theorem writeActive_irNext (b : Bool) (s : State) : (writeActive b s).irNext = s.irNext := rfl
@[simp] theorem writeActive_endSwitchN (b : Bool) (s : State) : (writeActive b s).endSwitchN = s.endSwitchN := rfl
@[simp] theorem writeActive_swNext (b : Bool) (s : State) : (writeActive b s).swNext = s.swNext := rfl
@[simp] theorem writeActive_stimuli (b : Bool) (s : State) : (writeActive b s).stimuli = s.stimuli := rfl
@[simp] theorem writeActive_draws (b : Bool) (s : State) : (writeActive b s).draws = s.draws := rfl
@[simp] theorem writeActive_argLater (b : Bool) (s : State) : (writeActive b s).argLater = s.argLater := rfl
@[simp] theorem writeActive_argEarlier (b : Bool) (s : State) : (writeActive b s).argEarlier = s.argEarlier := rfl
@[simp] theorem writeActive_argMs (b : Bool) (s : State) : (writeActive b s).argMs = s.argMs := rfl
@[simp] theorem writeActive_argDs (b : Bool) (s : State) : (writeActive b s).argDs = s.argDs := rfl
@[simp] theorem writeActive_argBuf (b : Bool) (s : State) : (writeActive b s).argBuf = s.argBuf := rfl
@[simp] theorem writeActive_ret (b : Bool) (s : State) : (writeActive b s).ret = s.ret := rfl

/-! ## `goto` -/

@[simp] theorem goto_tick (l : Line) (s : State) : (goto l s).tick = s.tick := rfl
@[simp] theorem goto_dir (l : Line) (s : State) : (goto l s).dir = s.dir := rfl
@[simp] theorem goto_err (l : Line) (s : State) : (goto l s).err = s.err := rfl
@[simp] theorem goto_pos (l : Line) (s : State) : (goto l s).pos = s.pos := rfl
@[simp] theorem goto_ltt (l : Line) (s : State) : (goto l s).ltt = s.ltt := rfl
@[simp] theorem goto_monoTrig (l : Line) (s : State) : (goto l s).monoTrig = s.monoTrig := rfl
@[simp] theorem goto_monoActive (l : Line) (s : State) : (goto l s).monoActive = s.monoActive := rfl
@[simp] theorem goto_ir (l : Line) (s : State) : (goto l s).ir = s.ir := rfl
@[simp] theorem goto_biasReg (l : Line) (s : State) : (goto l s).biasReg = s.biasReg := rfl
@[simp] theorem goto_lastLevel (l : Line) (s : State) : (goto l s).lastLevel = s.lastLevel := rfl
@[simp] theorem goto_fgAt (l : Line) (s : State) : (goto l s).fgAt = l := rfl
@[simp] theorem goto_callStack (l : Line) (s : State) : (goto l s).callStack = s.callStack := rfl
@[simp] theorem goto_motorUp (l : Line) (s : State) : (goto l s).motorUp = s.motorUp := rfl
@[simp] theorem goto_motorDown (l : Line) (s : State) : (goto l s).motorDown = s.motorDown := rfl
@[simp] theorem goto_bias (l : Line) (s : State) : (goto l s).bias = s.bias := rfl
@[simp] theorem goto_statusLed (l : Line) (s : State) : (goto l s).statusLed = s.statusLed := rfl
@[simp] theorem goto_irqEnabled (l : Line) (s : State) : (goto l s).irqEnabled = s.irqEnabled := rfl
@[simp] theorem goto_cfg (l : Line) (s : State) : (goto l s).cfg = s.cfg := rfl
@[simp] theorem goto_irLine (l : Line) (s : State) : (goto l s).irLine = s.irLine := rfl
@[simp] theorem goto_irNext (l : Line) (s : State) : (goto l s).irNext = s.irNext := rfl
@[simp] theorem goto_endSwitchN (l : Line) (s : State) : (goto l s).endSwitchN = s.endSwitchN := rfl
@[simp] theorem goto_swNext (l : Line) (s : State) : (goto l s).swNext = s.swNext := rfl
@[simp] theorem goto_stimuli (l : Line) (s : State) : (goto l s).stimuli = s.stimuli := rfl
@[simp] theorem goto_draws (l : Line) (s : State) : (goto l s).draws = s.draws := rfl
@[simp] theorem goto_argLater (l : Line) (s : State) : (goto l s).argLater = s.argLater := rfl
@[simp] theorem goto_argEarlier (l : Line) (s : State) : (goto l s).argEarlier = s.argEarlier := rfl
@[simp] theorem goto_argMs (l : Line) (s : State) : (goto l s).argMs = s.argMs := rfl
@[simp] theorem goto_argDs (l : Line) (s : State) : (goto l s).argDs = s.argDs := rfl
@[simp] theorem goto_argBuf (l : Line) (s : State) : (goto l s).argBuf = s.argBuf := rfl
@[simp] theorem goto_ret (l : Line) (s : State) : (goto l s).ret = s.ret := rfl

/-! ## `call` -/

@[simp] theorem call_tick (l : Line) (c : Cont) (s : State) : (call l c s).tick = s.tick := rfl
@[simp] theorem call_dir (l : Line) (c : Cont) (s : State) : (call l c s).dir = s.dir := rfl
@[simp] theorem call_err (l : Line) (c : Cont) (s : State) : (call l c s).err = s.err := rfl
@[simp] theorem call_pos (l : Line) (c : Cont) (s : State) : (call l c s).pos = s.pos := rfl
@[simp] theorem call_ltt (l : Line) (c : Cont) (s : State) : (call l c s).ltt = s.ltt := rfl
@[simp] theorem call_monoTrig (l : Line) (c : Cont) (s : State) : (call l c s).monoTrig = s.monoTrig := rfl
@[simp] theorem call_monoActive (l : Line) (c : Cont) (s : State) : (call l c s).monoActive = s.monoActive := rfl
@[simp] theorem call_ir (l : Line) (c : Cont) (s : State) : (call l c s).ir = s.ir := rfl
@[simp] theorem call_biasReg (l : Line) (c : Cont) (s : State) : (call l c s).biasReg = s.biasReg := rfl
@[simp] theorem call_lastLevel (l : Line) (c : Cont) (s : State) : (call l c s).lastLevel = s.lastLevel := rfl
@[simp] theorem call_fgAt (l : Line) (c : Cont) (s : State) : (call l c s).fgAt = l := rfl
@[simp] theorem call_callStack (l : Line) (c : Cont) (s : State) : (call l c s).callStack = c :: s.callStack := rfl
@[simp] theorem call_motorUp (l : Line) (c : Cont) (s : State) : (call l c s).motorUp = s.motorUp := rfl
@[simp] theorem call_motorDown (l : Line) (c : Cont) (s : State) : (call l c s).motorDown = s.motorDown := rfl
@[simp] theorem call_bias (l : Line) (c : Cont) (s : State) : (call l c s).bias = s.bias := rfl
@[simp] theorem call_statusLed (l : Line) (c : Cont) (s : State) : (call l c s).statusLed = s.statusLed := rfl
@[simp] theorem call_irqEnabled (l : Line) (c : Cont) (s : State) : (call l c s).irqEnabled = s.irqEnabled := rfl
@[simp] theorem call_cfg (l : Line) (c : Cont) (s : State) : (call l c s).cfg = s.cfg := rfl
@[simp] theorem call_irLine (l : Line) (c : Cont) (s : State) : (call l c s).irLine = s.irLine := rfl
@[simp] theorem call_irNext (l : Line) (c : Cont) (s : State) : (call l c s).irNext = s.irNext := rfl
@[simp] theorem call_endSwitchN (l : Line) (c : Cont) (s : State) : (call l c s).endSwitchN = s.endSwitchN := rfl
@[simp] theorem call_swNext (l : Line) (c : Cont) (s : State) : (call l c s).swNext = s.swNext := rfl
@[simp] theorem call_stimuli (l : Line) (c : Cont) (s : State) : (call l c s).stimuli = s.stimuli := rfl
@[simp] theorem call_draws (l : Line) (c : Cont) (s : State) : (call l c s).draws = s.draws := rfl
@[simp] theorem call_argLater (l : Line) (c : Cont) (s : State) : (call l c s).argLater = s.argLater := rfl
@[simp] theorem call_argEarlier (l : Line) (c : Cont) (s : State) : (call l c s).argEarlier = s.argEarlier := rfl
@[simp] theorem call_argMs (l : Line) (c : Cont) (s : State) : (call l c s).argMs = s.argMs := rfl
@[simp] theorem call_argDs (l : Line) (c : Cont) (s : State) : (call l c s).argDs = s.argDs := rfl
@[simp] theorem call_argBuf (l : Line) (c : Cont) (s : State) : (call l c s).argBuf = s.argBuf := rfl
@[simp] theorem call_ret (l : Line) (c : Cont) (s : State) : (call l c s).ret = s.ret := rfl

/-! ## `withRet` -/

@[simp] theorem withRet_tick (v : Value) (s : State) : (withRet v s).tick = s.tick := rfl
@[simp] theorem withRet_dir (v : Value) (s : State) : (withRet v s).dir = s.dir := rfl
@[simp] theorem withRet_err (v : Value) (s : State) : (withRet v s).err = s.err := rfl
@[simp] theorem withRet_pos (v : Value) (s : State) : (withRet v s).pos = s.pos := rfl
@[simp] theorem withRet_ltt (v : Value) (s : State) : (withRet v s).ltt = s.ltt := rfl
@[simp] theorem withRet_monoTrig (v : Value) (s : State) : (withRet v s).monoTrig = s.monoTrig := rfl
@[simp] theorem withRet_monoActive (v : Value) (s : State) : (withRet v s).monoActive = s.monoActive := rfl
@[simp] theorem withRet_ir (v : Value) (s : State) : (withRet v s).ir = s.ir := rfl
@[simp] theorem withRet_biasReg (v : Value) (s : State) : (withRet v s).biasReg = s.biasReg := rfl
@[simp] theorem withRet_lastLevel (v : Value) (s : State) : (withRet v s).lastLevel = s.lastLevel := rfl
@[simp] theorem withRet_fgAt (v : Value) (s : State) : (withRet v s).fgAt = s.fgAt := rfl
@[simp] theorem withRet_callStack (v : Value) (s : State) : (withRet v s).callStack = s.callStack := rfl
@[simp] theorem withRet_motorUp (v : Value) (s : State) : (withRet v s).motorUp = s.motorUp := rfl
@[simp] theorem withRet_motorDown (v : Value) (s : State) : (withRet v s).motorDown = s.motorDown := rfl
@[simp] theorem withRet_bias (v : Value) (s : State) : (withRet v s).bias = s.bias := rfl
@[simp] theorem withRet_statusLed (v : Value) (s : State) : (withRet v s).statusLed = s.statusLed := rfl
@[simp] theorem withRet_irqEnabled (v : Value) (s : State) : (withRet v s).irqEnabled = s.irqEnabled := rfl
@[simp] theorem withRet_cfg (v : Value) (s : State) : (withRet v s).cfg = s.cfg := rfl
@[simp] theorem withRet_irLine (v : Value) (s : State) : (withRet v s).irLine = s.irLine := rfl
@[simp] theorem withRet_irNext (v : Value) (s : State) : (withRet v s).irNext = s.irNext := rfl
@[simp] theorem withRet_endSwitchN (v : Value) (s : State) : (withRet v s).endSwitchN = s.endSwitchN := rfl
@[simp] theorem withRet_swNext (v : Value) (s : State) : (withRet v s).swNext = s.swNext := rfl
@[simp] theorem withRet_stimuli (v : Value) (s : State) : (withRet v s).stimuli = s.stimuli := rfl
@[simp] theorem withRet_draws (v : Value) (s : State) : (withRet v s).draws = s.draws := rfl
@[simp] theorem withRet_argLater (v : Value) (s : State) : (withRet v s).argLater = s.argLater := rfl
@[simp] theorem withRet_argEarlier (v : Value) (s : State) : (withRet v s).argEarlier = s.argEarlier := rfl
@[simp] theorem withRet_argMs (v : Value) (s : State) : (withRet v s).argMs = s.argMs := rfl
@[simp] theorem withRet_argDs (v : Value) (s : State) : (withRet v s).argDs = s.argDs := rfl
@[simp] theorem withRet_argBuf (v : Value) (s : State) : (withRet v s).argBuf = s.argBuf := rfl
@[simp] theorem withRet_ret (v : Value) (s : State) : (withRet v s).ret = v := rfl

/-! ## `writeFrame` -/

@[simp] theorem writeFrame_tick (f : IrFrame) (s : State) : (writeFrame f s).tick = s.tick := rfl
@[simp] theorem writeFrame_dir (f : IrFrame) (s : State) : (writeFrame f s).dir = s.dir := rfl
@[simp] theorem writeFrame_err (f : IrFrame) (s : State) : (writeFrame f s).err = s.err := rfl
@[simp] theorem writeFrame_pos (f : IrFrame) (s : State) : (writeFrame f s).pos = s.pos := rfl
@[simp] theorem writeFrame_ltt (f : IrFrame) (s : State) : (writeFrame f s).ltt = s.ltt := rfl
@[simp] theorem writeFrame_monoTrig (f : IrFrame) (s : State) : (writeFrame f s).monoTrig = s.monoTrig := rfl
@[simp] theorem writeFrame_monoActive (f : IrFrame) (s : State) : (writeFrame f s).monoActive = s.monoActive := rfl
@[simp] theorem writeFrame_ir (f : IrFrame) (s : State) : (writeFrame f s).ir = some f := rfl
@[simp] theorem writeFrame_biasReg (f : IrFrame) (s : State) : (writeFrame f s).biasReg = s.biasReg := rfl
@[simp] theorem writeFrame_lastLevel (f : IrFrame) (s : State) : (writeFrame f s).lastLevel = s.lastLevel := rfl
@[simp] theorem writeFrame_fgAt (f : IrFrame) (s : State) : (writeFrame f s).fgAt = s.fgAt := rfl
@[simp] theorem writeFrame_callStack (f : IrFrame) (s : State) : (writeFrame f s).callStack = s.callStack := rfl
@[simp] theorem writeFrame_motorUp (f : IrFrame) (s : State) : (writeFrame f s).motorUp = s.motorUp := rfl
@[simp] theorem writeFrame_motorDown (f : IrFrame) (s : State) : (writeFrame f s).motorDown = s.motorDown := rfl
@[simp] theorem writeFrame_bias (f : IrFrame) (s : State) : (writeFrame f s).bias = s.bias := rfl
@[simp] theorem writeFrame_statusLed (f : IrFrame) (s : State) : (writeFrame f s).statusLed = s.statusLed := rfl
@[simp] theorem writeFrame_irqEnabled (f : IrFrame) (s : State) : (writeFrame f s).irqEnabled = s.irqEnabled := rfl
@[simp] theorem writeFrame_cfg (f : IrFrame) (s : State) : (writeFrame f s).cfg = s.cfg := rfl
@[simp] theorem writeFrame_irLine (f : IrFrame) (s : State) : (writeFrame f s).irLine = s.irLine := rfl
@[simp] theorem writeFrame_irNext (f : IrFrame) (s : State) : (writeFrame f s).irNext = s.irNext := rfl
@[simp] theorem writeFrame_endSwitchN (f : IrFrame) (s : State) : (writeFrame f s).endSwitchN = s.endSwitchN := rfl
@[simp] theorem writeFrame_swNext (f : IrFrame) (s : State) : (writeFrame f s).swNext = s.swNext := rfl
@[simp] theorem writeFrame_stimuli (f : IrFrame) (s : State) : (writeFrame f s).stimuli = s.stimuli := rfl
@[simp] theorem writeFrame_draws (f : IrFrame) (s : State) : (writeFrame f s).draws = s.draws := rfl
@[simp] theorem writeFrame_argLater (f : IrFrame) (s : State) : (writeFrame f s).argLater = s.argLater := rfl
@[simp] theorem writeFrame_argEarlier (f : IrFrame) (s : State) : (writeFrame f s).argEarlier = s.argEarlier := rfl
@[simp] theorem writeFrame_argMs (f : IrFrame) (s : State) : (writeFrame f s).argMs = s.argMs := rfl
@[simp] theorem writeFrame_argDs (f : IrFrame) (s : State) : (writeFrame f s).argDs = s.argDs := rfl
@[simp] theorem writeFrame_argBuf (f : IrFrame) (s : State) : (writeFrame f s).argBuf = s.argBuf := rfl
@[simp] theorem writeFrame_ret (f : IrFrame) (s : State) : (writeFrame f s).ret = s.ret := rfl

/-! ## `timerStep` -/

@[simp] theorem timerStep_tick (s : State) : (timerStep s).tick = s.tick + 1#16 := rfl
@[simp] theorem timerStep_dir (s : State) : (timerStep s).dir = s.dir := rfl
@[simp] theorem timerStep_err (s : State) : (timerStep s).err = s.err := rfl
@[simp] theorem timerStep_pos (s : State) : (timerStep s).pos = s.pos := rfl
@[simp] theorem timerStep_ltt (s : State) : (timerStep s).ltt = s.ltt := rfl
@[simp] theorem timerStep_monoTrig (s : State) : (timerStep s).monoTrig = s.monoTrig := rfl
@[simp] theorem timerStep_monoActive (s : State) : (timerStep s).monoActive = s.monoActive := rfl
@[simp] theorem timerStep_ir (s : State) : (timerStep s).ir = s.ir := rfl
@[simp] theorem timerStep_biasReg (s : State) : (timerStep s).biasReg = s.biasReg := rfl
@[simp] theorem timerStep_lastLevel (s : State) : (timerStep s).lastLevel = s.lastLevel := rfl
@[simp] theorem timerStep_fgAt (s : State) : (timerStep s).fgAt = s.fgAt := rfl
@[simp] theorem timerStep_callStack (s : State) : (timerStep s).callStack = s.callStack := rfl
@[simp] theorem timerStep_motorUp (s : State) : (timerStep s).motorUp = s.motorUp := rfl
@[simp] theorem timerStep_motorDown (s : State) : (timerStep s).motorDown = s.motorDown := rfl
@[simp] theorem timerStep_bias (s : State) : (timerStep s).bias = s.bias := rfl
@[simp] theorem timerStep_statusLed (s : State) : (timerStep s).statusLed = s.statusLed := rfl
@[simp] theorem timerStep_irqEnabled (s : State) : (timerStep s).irqEnabled = s.irqEnabled := rfl
@[simp] theorem timerStep_cfg (s : State) : (timerStep s).cfg = s.cfg := rfl
@[simp] theorem timerStep_irLine (s : State) : (timerStep s).irLine = s.irLine := rfl
@[simp] theorem timerStep_irNext (s : State) : (timerStep s).irNext = s.irNext := rfl
@[simp] theorem timerStep_endSwitchN (s : State) : (timerStep s).endSwitchN = s.endSwitchN := rfl
@[simp] theorem timerStep_swNext (s : State) : (timerStep s).swNext = s.swNext := rfl
@[simp] theorem timerStep_stimuli (s : State) : (timerStep s).stimuli = s.stimuli := rfl
@[simp] theorem timerStep_draws (s : State) : (timerStep s).draws = s.draws := rfl
@[simp] theorem timerStep_argLater (s : State) : (timerStep s).argLater = s.argLater := rfl
@[simp] theorem timerStep_argEarlier (s : State) : (timerStep s).argEarlier = s.argEarlier := rfl
@[simp] theorem timerStep_argMs (s : State) : (timerStep s).argMs = s.argMs := rfl
@[simp] theorem timerStep_argDs (s : State) : (timerStep s).argDs = s.argDs := rfl
@[simp] theorem timerStep_argBuf (s : State) : (timerStep s).argBuf = s.argBuf := rfl
@[simp] theorem timerStep_ret (s : State) : (timerStep s).ret = s.ret := rfl

/-! ## `readIrLine_snd` -/

@[simp] theorem readIrLine_snd_tick (s : State) : ((readIrLine s).2).tick = s.tick := rfl
@[simp] theorem readIrLine_snd_dir (s : State) : ((readIrLine s).2).dir = s.dir := rfl
@[simp] theorem readIrLine_snd_err (s : State) : ((readIrLine s).2).err = s.err := rfl
@[simp] theorem readIrLine_snd_pos (s : State) : ((readIrLine s).2).pos = s.pos := rfl
@[simp] theorem readIrLine_snd_ltt (s : State) : ((readIrLine s).2).ltt = s.ltt := rfl
@[simp] theorem readIrLine_snd_monoTrig (s : State) : ((readIrLine s).2).monoTrig = s.monoTrig := rfl
@[simp] theorem readIrLine_snd_monoActive (s : State) : ((readIrLine s).2).monoActive = s.monoActive := rfl
@[simp] theorem readIrLine_snd_ir (s : State) : ((readIrLine s).2).ir = s.ir := rfl
@[simp] theorem readIrLine_snd_biasReg (s : State) : ((readIrLine s).2).biasReg = s.biasReg := rfl
@[simp] theorem readIrLine_snd_lastLevel (s : State) : ((readIrLine s).2).lastLevel = s.lastLevel := rfl
@[simp] theorem readIrLine_snd_fgAt (s : State) : ((readIrLine s).2).fgAt = s.fgAt := rfl
@[simp] theorem readIrLine_snd_callStack (s : State) : ((readIrLine s).2).callStack = s.callStack := rfl
@[simp] theorem readIrLine_snd_motorUp (s : State) : ((readIrLine s).2).motorUp = s.motorUp := rfl
@[simp] theorem readIrLine_snd_motorDown (s : State) : ((readIrLine s).2).motorDown = s.motorDown := rfl
@[simp] theorem readIrLine_snd_bias (s : State) : ((readIrLine s).2).bias = s.bias := rfl
@[simp] theorem readIrLine_snd_statusLed (s : State) : ((readIrLine s).2).statusLed = s.statusLed := rfl
@[simp] theorem readIrLine_snd_irqEnabled (s : State) : ((readIrLine s).2).irqEnabled = s.irqEnabled := rfl
@[simp] theorem readIrLine_snd_cfg (s : State) : ((readIrLine s).2).cfg = s.cfg := rfl
@[simp] theorem readIrLine_snd_irLine (s : State) : ((readIrLine s).2).irLine = s.irNext.headD s.irLine := rfl
@[simp] theorem readIrLine_snd_irNext (s : State) : ((readIrLine s).2).irNext = s.irNext.tail := rfl
@[simp] theorem readIrLine_snd_endSwitchN (s : State) : ((readIrLine s).2).endSwitchN = s.endSwitchN := rfl
@[simp] theorem readIrLine_snd_swNext (s : State) : ((readIrLine s).2).swNext = s.swNext := rfl
@[simp] theorem readIrLine_snd_stimuli (s : State) : ((readIrLine s).2).stimuli = s.stimuli := rfl
@[simp] theorem readIrLine_snd_draws (s : State) : ((readIrLine s).2).draws = s.draws := rfl
@[simp] theorem readIrLine_snd_argLater (s : State) : ((readIrLine s).2).argLater = s.argLater := rfl
@[simp] theorem readIrLine_snd_argEarlier (s : State) : ((readIrLine s).2).argEarlier = s.argEarlier := rfl
@[simp] theorem readIrLine_snd_argMs (s : State) : ((readIrLine s).2).argMs = s.argMs := rfl
@[simp] theorem readIrLine_snd_argDs (s : State) : ((readIrLine s).2).argDs = s.argDs := rfl
@[simp] theorem readIrLine_snd_argBuf (s : State) : ((readIrLine s).2).argBuf = s.argBuf := rfl
@[simp] theorem readIrLine_snd_ret (s : State) : ((readIrLine s).2).ret = s.ret := rfl

/-! ## `readEngaged_snd` -/

@[simp] theorem readEngaged_snd_tick (s : State) : ((readEngaged s).2).tick = s.tick := rfl
@[simp] theorem readEngaged_snd_dir (s : State) : ((readEngaged s).2).dir = s.dir := rfl
@[simp] theorem readEngaged_snd_err (s : State) : ((readEngaged s).2).err = s.err := rfl
@[simp] theorem readEngaged_snd_pos (s : State) : ((readEngaged s).2).pos = s.pos := rfl
@[simp] theorem readEngaged_snd_ltt (s : State) : ((readEngaged s).2).ltt = s.ltt := rfl
@[simp] theorem readEngaged_snd_monoTrig (s : State) : ((readEngaged s).2).monoTrig = s.monoTrig := rfl
@[simp] theorem readEngaged_snd_monoActive (s : State) : ((readEngaged s).2).monoActive = s.monoActive := rfl
@[simp] theorem readEngaged_snd_ir (s : State) : ((readEngaged s).2).ir = s.ir := rfl
@[simp] theorem readEngaged_snd_biasReg (s : State) : ((readEngaged s).2).biasReg = s.biasReg := rfl
@[simp] theorem readEngaged_snd_lastLevel (s : State) : ((readEngaged s).2).lastLevel = s.lastLevel := rfl
@[simp] theorem readEngaged_snd_fgAt (s : State) : ((readEngaged s).2).fgAt = s.fgAt := rfl
@[simp] theorem readEngaged_snd_callStack (s : State) : ((readEngaged s).2).callStack = s.callStack := rfl
@[simp] theorem readEngaged_snd_motorUp (s : State) : ((readEngaged s).2).motorUp = s.motorUp := rfl
@[simp] theorem readEngaged_snd_motorDown (s : State) : ((readEngaged s).2).motorDown = s.motorDown := rfl
@[simp] theorem readEngaged_snd_bias (s : State) : ((readEngaged s).2).bias = s.bias := rfl
@[simp] theorem readEngaged_snd_statusLed (s : State) : ((readEngaged s).2).statusLed = s.statusLed := rfl
@[simp] theorem readEngaged_snd_irqEnabled (s : State) : ((readEngaged s).2).irqEnabled = s.irqEnabled := rfl
@[simp] theorem readEngaged_snd_cfg (s : State) : ((readEngaged s).2).cfg = s.cfg := rfl
@[simp] theorem readEngaged_snd_irLine (s : State) : ((readEngaged s).2).irLine = s.irLine := rfl
@[simp] theorem readEngaged_snd_irNext (s : State) : ((readEngaged s).2).irNext = s.irNext := rfl
@[simp] theorem readEngaged_snd_endSwitchN (s : State) : ((readEngaged s).2).endSwitchN = s.swNext.headD s.endSwitchN := rfl
@[simp] theorem readEngaged_snd_swNext (s : State) : ((readEngaged s).2).swNext = s.swNext.tail := rfl
@[simp] theorem readEngaged_snd_stimuli (s : State) : ((readEngaged s).2).stimuli = s.stimuli := rfl
@[simp] theorem readEngaged_snd_draws (s : State) : ((readEngaged s).2).draws = s.draws := rfl
@[simp] theorem readEngaged_snd_argLater (s : State) : ((readEngaged s).2).argLater = s.argLater := rfl
@[simp] theorem readEngaged_snd_argEarlier (s : State) : ((readEngaged s).2).argEarlier = s.argEarlier := rfl
@[simp] theorem readEngaged_snd_argMs (s : State) : ((readEngaged s).2).argMs = s.argMs := rfl
@[simp] theorem readEngaged_snd_argDs (s : State) : ((readEngaged s).2).argDs = s.argDs := rfl
@[simp] theorem readEngaged_snd_argBuf (s : State) : ((readEngaged s).2).argBuf = s.argBuf := rfl
@[simp] theorem readEngaged_snd_ret (s : State) : ((readEngaged s).2).ret = s.ret := rfl

/-! ## `writeOperand` -/

@[simp] theorem writeOperand_tick (o : Operand) (s : State) : (writeOperand o s).tick = s.tick := by
  cases o <;> rfl
@[simp] theorem writeOperand_dir (o : Operand) (s : State) : (writeOperand o s).dir = s.dir := by
  cases o <;> rfl
@[simp] theorem writeOperand_err (o : Operand) (s : State) : (writeOperand o s).err = s.err := by
  cases o <;> rfl
@[simp] theorem writeOperand_pos (o : Operand) (s : State) : (writeOperand o s).pos = s.pos := by
  cases o <;> rfl
@[simp] theorem writeOperand_ltt (o : Operand) (s : State) : (writeOperand o s).ltt = s.ltt := by
  cases o <;> rfl
@[simp] theorem writeOperand_monoTrig (o : Operand) (s : State) : (writeOperand o s).monoTrig = s.monoTrig := by
  cases o <;> rfl
@[simp] theorem writeOperand_monoActive (o : Operand) (s : State) : (writeOperand o s).monoActive = s.monoActive := by
  cases o <;> rfl
@[simp] theorem writeOperand_ir (o : Operand) (s : State) : (writeOperand o s).ir = s.ir := by
  cases o <;> rfl
@[simp] theorem writeOperand_biasReg (o : Operand) (s : State) : (writeOperand o s).biasReg = s.biasReg := by
  cases o <;> rfl
@[simp] theorem writeOperand_lastLevel (o : Operand) (s : State) : (writeOperand o s).lastLevel = s.lastLevel := by
  cases o <;> rfl
@[simp] theorem writeOperand_fgAt (o : Operand) (s : State) : (writeOperand o s).fgAt = s.fgAt := by
  cases o <;> rfl
@[simp] theorem writeOperand_callStack (o : Operand) (s : State) : (writeOperand o s).callStack = s.callStack := by
  cases o <;> rfl
@[simp] theorem writeOperand_motorUp (o : Operand) (s : State) : (writeOperand o s).motorUp = s.motorUp := by
  cases o <;> rfl
@[simp] theorem writeOperand_motorDown (o : Operand) (s : State) : (writeOperand o s).motorDown = s.motorDown := by
  cases o <;> rfl
@[simp] theorem writeOperand_bias (o : Operand) (s : State) : (writeOperand o s).bias = s.bias := by
  cases o <;> rfl
@[simp] theorem writeOperand_statusLed (o : Operand) (s : State) : (writeOperand o s).statusLed = s.statusLed := by
  cases o <;> rfl
@[simp] theorem writeOperand_irqEnabled (o : Operand) (s : State) : (writeOperand o s).irqEnabled = s.irqEnabled := by
  cases o <;> rfl
@[simp] theorem writeOperand_cfg (o : Operand) (s : State) : (writeOperand o s).cfg = s.cfg := by
  cases o <;> rfl
@[simp] theorem writeOperand_irLine (o : Operand) (s : State) : (writeOperand o s).irLine = s.irLine := by
  cases o <;> rfl
@[simp] theorem writeOperand_irNext (o : Operand) (s : State) : (writeOperand o s).irNext = s.irNext := by
  cases o <;> rfl
@[simp] theorem writeOperand_endSwitchN (o : Operand) (s : State) : (writeOperand o s).endSwitchN = s.endSwitchN := by
  cases o <;> rfl
@[simp] theorem writeOperand_swNext (o : Operand) (s : State) : (writeOperand o s).swNext = s.swNext := by
  cases o <;> rfl
@[simp] theorem writeOperand_stimuli (o : Operand) (s : State) : (writeOperand o s).stimuli = s.stimuli := by
  cases o <;> rfl
@[simp] theorem writeOperand_draws (o : Operand) (s : State) : (writeOperand o s).draws = s.draws := by
  cases o <;> rfl
@[simp] theorem writeOperand_ret (o : Operand) (s : State) : (writeOperand o s).ret = s.ret := by
  cases o <;> rfl
@[simp] theorem writeOperand_ticks_argLater (a b : ClockTick) (s : State) :
    (writeOperand (.ticks a b) s).argLater = a := rfl
@[simp] theorem writeOperand_ticks_argEarlier (a b : ClockTick) (s : State) :
    (writeOperand (.ticks a b) s).argEarlier = b := rfl
@[simp] theorem writeOperand_ticks_argMs (a b : ClockTick) (s : State) :
    (writeOperand (.ticks a b) s).argMs = s.argMs := rfl
@[simp] theorem writeOperand_ticks_argDs (a b : ClockTick) (s : State) :
    (writeOperand (.ticks a b) s).argDs = s.argDs := rfl
@[simp] theorem writeOperand_ticks_argBuf (a b : ClockTick) (s : State) :
    (writeOperand (.ticks a b) s).argBuf = s.argBuf := rfl
@[simp] theorem writeOperand_ms_argLater (n : Nat) (s : State) :
    (writeOperand (.ms n) s).argLater = s.argLater := rfl
@[simp] theorem writeOperand_ms_argEarlier (n : Nat) (s : State) :
    (writeOperand (.ms n) s).argEarlier = s.argEarlier := rfl
@[simp] theorem writeOperand_ms_argMs (n : Nat) (s : State) :
    (writeOperand (.ms n) s).argMs = n := rfl
@[simp] theorem writeOperand_ms_argDs (n : Nat) (s : State) :
    (writeOperand (.ms n) s).argDs = s.argDs := rfl
@[simp] theorem writeOperand_ms_argBuf (n : Nat) (s : State) :
    (writeOperand (.ms n) s).argBuf = s.argBuf := rfl
@[simp] theorem writeOperand_durations_argLater (ds : List Nat) (s : State) :
    (writeOperand (.durations ds) s).argLater = s.argLater := rfl
@[simp] theorem writeOperand_durations_argEarlier (ds : List Nat) (s : State) :
    (writeOperand (.durations ds) s).argEarlier = s.argEarlier := rfl
@[simp] theorem writeOperand_durations_argMs (ds : List Nat) (s : State) :
    (writeOperand (.durations ds) s).argMs = s.argMs := rfl
@[simp] theorem writeOperand_durations_argDs (ds : List Nat) (s : State) :
    (writeOperand (.durations ds) s).argDs = ds := rfl
@[simp] theorem writeOperand_durations_argBuf (ds : List Nat) (s : State) :
    (writeOperand (.durations ds) s).argBuf = s.argBuf := rfl
@[simp] theorem writeOperand_bytes_argLater (buf : FrameBuf) (s : State) :
    (writeOperand (.bytes buf) s).argLater = s.argLater := rfl
@[simp] theorem writeOperand_bytes_argEarlier (buf : FrameBuf) (s : State) :
    (writeOperand (.bytes buf) s).argEarlier = s.argEarlier := rfl
@[simp] theorem writeOperand_bytes_argMs (buf : FrameBuf) (s : State) :
    (writeOperand (.bytes buf) s).argMs = s.argMs := rfl
@[simp] theorem writeOperand_bytes_argDs (buf : FrameBuf) (s : State) :
    (writeOperand (.bytes buf) s).argDs = s.argDs := rfl
@[simp] theorem writeOperand_bytes_argBuf (buf : FrameBuf) (s : State) :
    (writeOperand (.bytes buf) s).argBuf = buf := rfl

/-! ## Values read -/

@[simp] theorem readIrLine_fst (s : State) : (readIrLine s).1 = s.irLine := rfl
@[simp] theorem readEngaged_fst (s : State) : (readEngaged s).1 = !s.endSwitchN := rfl
@[simp] theorem now_eq (s : State) : now s = s.tick := rfl
@[simp] theorem isActive_eq (s : State) : isActive s = s.monoActive := rfl

end Sys2Proof.Machine
end

