-- ==== Sys2Proof/Laws/Ops.lean ====
section
/-! SUPPORT. For each shared operation, once, everything it can do. A proof about an operation cites these and
unfolds nothing. -/

namespace Sys2Proof.Machine

/-! ## Sequencing -/

@[simp] theorem andThen_next (s : State) (f : State → Result) : andThen (.next s) f = f s := rfl

@[simp] theorem andThen_refused (r : Refusal) (f : State → Result) :
    andThen (.refused r) f = .refused r := rfl

/-- A sequence answers a next state only through one. -/
theorem andThen_eq_next {o : Result} {f : State → Result} {t : State} (h : andThen o f = .next t) :
    ∃ u, o = .next u ∧ f u = .next t := by
  cases o <;> simp [andThen] at h
  exact ⟨_, rfl, h⟩

@[simp] theorem returnsUnit_next (s : State) : returnsUnit (.next s) = .next { s with ret := .unit } := rfl

/-- An operation run alone that returns nothing ends in its own next state, but for `ret`. -/
theorem returnsUnit_eq_next {o : Result} {t : State} (h : returnsUnit o = .next t) :
    ∃ u, o = .next u ∧ t = { u with ret := .unit } := by
  obtain ⟨u, hu, ht⟩ := andThen_eq_next h
  cases ht
  exact ⟨u, hu, rfl⟩

/-! ## Cells -/

/-- A write of `pos` answers exactly the written state. -/
theorem writePos_eq_next {p : Int} {s t : State} (h : writePos p s = .next t) :
    posInRange s.cfg p = true ∧ t = { s with pos := p } := by
  unfold writePos at h
  split at h
  · cases h; exact ⟨‹_›, rfl⟩
  · cases h

theorem writePos_in_range {p : Int} {s : State} (h : posInRange s.cfg p = true) :
    writePos p s = .next { s with pos := p } := by
  simp [writePos, h]

theorem writePos_out_of_range {p : Int} {s : State} (h : posInRange s.cfg p = false) :
    writePos p s = .refused .posOutOfRange := by
  simp [writePos, h]

/-- Zero is a position of every width. -/
theorem zero_posInRange (cfg : Config) : posInRange cfg 0 = true := by
  have h : (0 : Int) < 2 ^ (cfg.posWidth - 1) := Int.pow_pos (by decide)
  simp only [posInRange, Bool.and_eq_true, decide_eq_true_eq]
  exact ⟨by omega, h⟩

/-! ## The motor driver and the faults -/

theorem applyDirection_neutral (s : State) :
    applyDirection .neutral s = { s with dir := .neutral, motorUp := false, motorDown := false } := rfl

theorem applyDirection_up (s : State) :
    applyDirection .up s =
      { s with dir := .up, motorUp := true, motorDown := false, ltt := s.tick } := rfl

theorem applyDirection_down (s : State) :
    applyDirection .down s =
      { s with dir := .down, motorUp := false, motorDown := true, ltt := s.tick } := rfl

/-- Fault entry in one piece (R140). -/
theorem takeFault_eq (k : FaultKind) (s : State) :
    takeFault k s =
      { s with dir := .neutral, motorUp := false, motorDown := false, err := errOfFault k } := rfl

theorem leaveFault_eq_some {s t : State} (h : leaveFault s = some t) :
    s.err ≠ .endSwitchFault ∧ t = { s with err := .none } := by
  unfold leaveFault at h
  split at h
  · cases h
  · cases h; exact ⟨‹_›, rfl⟩

/-! ## Stop conditions -/

/-- A read of the switch port is the state with the port sampled once more. -/
theorem readEngaged_snd_eq (s : State) : (readEngaged s).2 = Safety.switchSampled s := rfl

/-- A read of the infrared port is the state with the port sampled once more. -/
theorem readIrLine_snd_eq (s : State) : (readIrLine s).2 = Safety.irSampled s := rfl

@[simp] theorem upStopCondition_snd (s : State) : (upStopCondition s).2 = (readEngaged s).2 := rfl

theorem upStopCondition_fst (s : State) :
    (upStopCondition s).1 = (s.err != .none || decide (s.pos ≤ s.cfg.upBound) || !s.endSwitchN) := rfl

theorem downStopCondition_eq (s : State) :
    downStopCondition s = (s.err != .none || decide (s.cfg.downBound ≤ s.pos)) := rfl

/-! ## The Screen's operations -/

/-- `set_direction(d)` changes nothing, or samples the switch and refuses, or applies `d`. -/
theorem setDirection_cases (d : Direction) (s : State) :
    (setDirection d s = s ∧ s.dir = d) ∨
    (d = .neutral ∧ s.dir ≠ .neutral ∧ setDirection d s = applyDirection .neutral s) ∨
    (d = .up ∧ s.dir ≠ .up ∧ (upStopCondition s).1 = true ∧ setDirection d s = (readEngaged s).2) ∨
    (d = .up ∧ s.dir ≠ .up ∧ (upStopCondition s).1 = false ∧
      setDirection d s = applyDirection .up (readEngaged s).2) ∨
    (d = .down ∧ s.dir ≠ .down ∧ downStopCondition s = true ∧ setDirection d s = s) ∨
    (d = .down ∧ s.dir ≠ .down ∧ downStopCondition s = false ∧
      setDirection d s = applyDirection .down s) := by
  by_cases h : s.dir = d
  · exact .inl ⟨by simp [setDirection, h], h⟩
  · cases d
    · exact .inr (.inl ⟨rfl, h, by simp [setDirection, h]⟩)
    · cases hc : (upStopCondition s).1
      · exact .inr (.inr (.inr (.inl ⟨rfl, h, rfl, by simp [setDirection, h, hc]⟩)))
      · exact .inr (.inr (.inl ⟨rfl, h, rfl, by simp [setDirection, h, hc]⟩))
    · cases hc : downStopCondition s
      · exact .inr (.inr (.inr (.inr (.inr ⟨rfl, h, rfl, by simp [setDirection, h, hc]⟩))))
      · exact .inr (.inr (.inr (.inr (.inl ⟨rfl, h, rfl, by simp [setDirection, h, hc]⟩))))

/-- What `set_direction` can write: its own cells, the pins, and the switch port's next level. -/
theorem setDirection_frame (d : Direction) (s : State) :
    ∃ dir mu md ltt sw next, setDirection d s =
      { s with dir := dir, motorUp := mu, motorDown := md, ltt := ltt,
               endSwitchN := sw, swNext := next } := by
  rcases setDirection_cases d s with ⟨h, -⟩ | ⟨-, -, h⟩ | ⟨-, -, -, h⟩ | ⟨-, -, -, h⟩ | ⟨-, -, -, h⟩ |
    ⟨-, -, -, h⟩ <;> exact ⟨_, _, _, _, _, _, h⟩

/-- `go_home()` stops at G1, stops at G3 with the error cleared, or sets `pos` and requests Up. -/
theorem goHome_eq_next {s t : State} (h : goHome s = .next t) :
    (s.err = .endSwitchFault ∧ t = s) ∨
    (s.err ≠ .endSwitchFault ∧ s.endSwitchN = false ∧ t = (readEngaged { s with err := .none }).2) ∨
    (s.err ≠ .endSwitchFault ∧ s.endSwitchN = true ∧ posInRange s.cfg s.cfg.downBound = true ∧
      t = setDirection .up { (readEngaged { s with err := .none }).2 with pos := s.cfg.downBound }) := by
  unfold goHome at h
  split at h
  · rename_i hn
    have he : s.err = .endSwitchFault := by
      unfold leaveFault at hn; split at hn
      · assumption
      · cases hn
    cases h; exact .inl ⟨he, rfl⟩
  · rename_i s2 hs
    obtain ⟨he, rfl⟩ := leaveFault_eq_some hs
    cases hsw : s.endSwitchN
    · simp [hsw] at h
      exact .inr (.inl ⟨he, rfl, h.symm⟩)
    · simp [hsw] at h
      obtain ⟨u, hu, ht⟩ := andThen_eq_next h
      obtain ⟨hr, rfl⟩ := writePos_eq_next hu
      cases ht
      exact .inr (.inr ⟨he, rfl, hr, rfl⟩)

/-- What a rotation tick writes, whenever it answers: `pos` by the direction, and the stamp. -/
theorem onRotationTick_eq_next {s t : State} (h : onRotationTick s = .next t) :
    ∃ p, t = { s with pos := p, ltt := s.tick } ∧
      (s.dir = .neutral → p = s.pos) ∧
      (s.dir = .down → p = s.pos + 1 ∧ posInRange s.cfg p = true) ∧
      (s.dir = .up → p = s.pos - 1 ∧ posInRange s.cfg p = true) := by
  obtain ⟨u, hu, ht⟩ := andThen_eq_next h
  cases ht
  unfold countTick at hu
  split at hu <;> rename_i hd
  · obtain ⟨hr, rfl⟩ := writePos_eq_next hu
    exact ⟨s.pos + 1, rfl, fun hn => by simp [hd] at hn, fun _ => ⟨rfl, hr⟩, fun hn => by simp [hd] at hn⟩
  · obtain ⟨hr, rfl⟩ := writePos_eq_next hu
    exact ⟨s.pos - 1, rfl, fun hn => by simp [hd] at hn, fun hn => by simp [hd] at hn, fun _ => ⟨rfl, hr⟩⟩
  · cases hu
    exact ⟨s.pos, rfl, fun _ => rfl, fun hn => by simp [hd] at hn, fun hn => by simp [hd] at hn⟩

/-- `on_endswitch_triggered()` always answers (R88). -/
theorem onEndswitchTriggered_eq (s : State) :
    onEndswitchTriggered s = .next (if s.dir = .down then s else { s with pos := 0 }) := by
  unfold onEndswitchTriggered
  split
  · rfl
  · exact writePos_in_range (zero_posInRange s.cfg)

/-- What the handler writes, whenever it answers: its own bits, the bias, `pos` and `ltt` (R44). -/
theorem onComparatorEdge_eq_next {level : Bool} {s t : State} (h : onComparatorEdge level s = .next t) :
    ∃ p l, t = { s with biasReg := !s.biasReg, bias := !s.biasReg, lastLevel := level, pos := p, ltt := l } ∧
      (level = s.lastLevel → p = s.pos ∧ l = s.ltt) ∧
      (level ≠ s.lastLevel → l = s.tick ∧ (s.dir = .neutral → p = s.pos) ∧
        (s.dir = .down → p = s.pos + 1 ∧ posInRange s.cfg p = true) ∧
        (s.dir = .up → p = s.pos - 1 ∧ posInRange s.cfg p = true)) := by
  unfold onComparatorEdge at h
  by_cases hl : level = s.lastLevel
  · have h2 : level = (toggleBias s).lastLevel := hl
    simp only [h2, if_true] at h
    cases h
    exact ⟨s.pos, s.ltt, by subst hl; rfl, fun _ => ⟨rfl, rfl⟩, fun hn => absurd hl hn⟩
  · have h2 : ¬ level = (toggleBias s).lastLevel := hl
    simp only [h2, if_false] at h
    obtain ⟨p, ht, h0, h1, h2⟩ := onRotationTick_eq_next h
    exact ⟨p, s.tick, ht, fun hn => absurd hn hl, fun _ => ⟨rfl, h0, h1, h2⟩⟩

/-- What the periodic check can write: direction, error, pins, and the switch port's next level (R89). -/
theorem checkStopConditions_frame (s : State) :
    ∃ dir err mu md sw next, checkStopConditions s =
      { s with dir := dir, err := err, motorUp := mu, motorDown := md, endSwitchN := sw, swNext := next } := by
  have h1 : ∃ dir err mu md, checkOverrun (checkStall s) =
      { s with dir := dir, err := err, motorUp := mu, motorDown := md } := by
    have h0 : ∃ dir err mu md, checkStall s =
        { s with dir := dir, err := err, motorUp := mu, motorDown := md } := by
      unfold checkStall
      split
      · exact ⟨_, _, _, _, rfl⟩
      · split
        · exact ⟨_, _, _, _, takeFault_eq _ _⟩
        · exact ⟨_, _, _, _, rfl⟩
    obtain ⟨d, e, u, w, h0⟩ := h0
    rw [h0]
    unfold checkOverrun
    split
    · split
      · exact ⟨_, _, _, _, takeFault_eq _ _⟩
      · exact ⟨_, _, _, _, rfl⟩
    · exact ⟨_, _, _, _, rfl⟩
  obtain ⟨d, e, u, w, h1⟩ := h1
  unfold checkStopConditions
  rw [h1]
  unfold checkLimits
  split
  · dsimp only
    split
    · exact ⟨_, _, _, _, _, _, applyDirection_neutral _⟩
    · exact ⟨_, _, _, _, _, _, rfl⟩
  · split
    · exact ⟨_, _, _, _, _, _, applyDirection_neutral _⟩
    · exact ⟨_, _, _, _, _, _, rfl⟩
  · exact ⟨_, _, _, _, _, _, rfl⟩

/-! ## The Monoflop's operations -/

theorem trigger_eq (s : State) : trigger s = { s with monoTrig := s.tick, monoActive := true } := rfl

theorem regularCheck_eq (s : State) :
    regularCheck s = { s with monoActive := s.monoActive && !windowOver s } := by
  unfold regularCheck
  cases h : s.monoActive <;> cases hw : windowOver s <;> simp [h, writeActive]
  all_goals (cases s; simp_all)

/-! ## The blocking read -/

/-- The count of samples is no input of a bit: it is carried along. -/
theorem shiftIn_withCount (tBit d n : Nat) (f : IrFrame) :
    shiftIn tBit d { f with d := n } = { shiftIn tBit d f with d := n } := by
  unfold shiftIn; split <;> rfl

/-- Nor of a sequence of them. -/
theorem decodeFrom_withCount (tBit tEof n : Nat) (ds : List Nat) : ∀ f : IrFrame,
    decodeFrom tBit tEof ds { f with d := n } = { decodeFrom tBit tEof ds f with d := n } := by
  induction ds with
  | nil => intro f; rfl
  | cons d ds ih =>
    intro f
    simp only [decodeFrom]
    split
    · rfl
    · rw [shiftIn_withCount]; exact ih _

/-- Lines I2 to I4 on a high phase of at most `IR_T_EOF` samples: one bit, and the foreground is at I1 again. -/
theorem irScan_phase (tBit tEof d : Nat) (f : IrFrame) (y : Bool) (ys : List Bool) (h : d ≤ tEof) :
    irScan tBit tEof false f true (List.replicate d true ++ false :: y :: ys) =
      irScan tBit tEof false { shiftIn tBit d f with d := d } y ys := by
  have count : ∀ (k n : Nat), n + k ≤ tEof → ∀ x xs, x :: xs = List.replicate k true ++ false :: y :: ys →
      irScan tBit tEof true { f with d := n } x xs =
        irScan tBit tEof false { shiftIn tBit (n + k) f with d := n + k } y ys := by
    intro k
    induction k with
    | zero =>
      intro n hn x xs hx
      cases hx
      have h1 : ¬ tEof < n := by omega
      simp [irScan, h1, shiftIn_withCount]
    | succ k ih =>
      intro n hn x xs hx
      have h1 : ¬ tEof < n := by omega
      cases hk : List.replicate k true ++ false :: y :: ys with
      | nil => simp at hk
      | cons z zs =>
        rw [List.replicate_succ, List.cons_append, hk] at hx
        cases hx
        have := ih (n + 1) (by omega) z zs hk.symm
        simp only [irScan, h1, if_false]
        rw [show n + (k + 1) = n + 1 + k by omega]
        exact this
  cases hk : List.replicate d true ++ false :: y :: ys with
  | nil => simp at hk
  | cons z zs =>
    have := count d 0 (by omega) z zs hk.symm
    simpa [irScan] using this

/-- The read on a duration sequence none over `IR_T_EOF` accepts what `ir_decode` accepts, and finds the line idle
(R104). -/
theorem irScan_wave (tBit tEof : Nat) (ds : List Nat) (h : ∀ d ∈ ds, d ≤ tEof) :
    ∀ (f : IrFrame) (x : Bool) (xs : List Bool), x :: xs = waveSamples ds →
      ∃ n, irScan tBit tEof false f x xs = ⟨true, { decodeFrom tBit tEof ds f with d := n }, true, []⟩ := by
  induction ds with
  | nil => intro f x xs hx; cases hx; exact ⟨_, rfl⟩
  | cons d ds ih =>
    intro f x xs hx
    have hd : ¬ tEof < d := by have := h d (by simp); omega
    have hw : waveSamples (d :: ds) = true :: (List.replicate d true ++ false :: waveSamples ds) := by
      simp [waveSamples, phaseSamples]
    rw [hw] at hx
    cases hx
    cases hy : waveSamples ds with
    | nil => simp [waveSamples] at hy
    | cons y ys =>
      rw [irScan_phase _ _ _ _ _ _ (by omega)]
      obtain ⟨n, hn⟩ := ih (fun e he => h e (by simp [he])) { shiftIn tBit d f with d := d } y ys hy.symm
      refine ⟨n, ?_⟩
      rw [hn]
      simp only [decodeFrom, if_neg hd, decodeFrom_withCount]

/-! ## Returning from an operation -/

@[simp] theorem returnTo_nil (v : Value) (s : State) :
    returnTo v [] s = { s with fgAt := .c1, callStack := [] } := rfl

@[simp] theorem returnTo_line (v : Value) (l : Line) (st : List Cont) (s : State) :
    returnTo v (.line l :: st) s = { s with fgAt := l, callStack := st } := rfl

@[simp] theorem returnTo_alone (v : Value) (l : Line) (st : List Cont) (s : State) :
    returnTo v (.alone l :: st) s = { s with fgAt := l, callStack := st, ret := v } := rfl

/-- A stop condition that holds ends `set_direction`; one that does not lets it apply (R83). -/
@[simp] theorem returnTo_s2 (b : Bool) (d : Direction) (st : List Cont) (s : State) :
    returnTo (.bool b) (.s2 d :: st) s =
      if b = true then returnTo .unit st s else { s with fgAt := .s3 d, callStack := st } := by
  cases b <;> rfl

/-- A stop condition that holds stops the motor at K3; one that does not ends the check (R89). -/
@[simp] theorem returnTo_k3 (b : Bool) (st : List Cont) (s : State) :
    returnTo (.bool b) (.k3 :: st) s =
      if b = true then { s with fgAt := .a1 .neutral, callStack := st } else returnTo .unit st s := by
  cases b <;> rfl

/-- A frame is judged and dispatched, and C3 follows (R125). -/
@[simp] theorem returnTo_c2 (n : Nat) (buf : FrameBuf) (st : List Cont) (s : State) :
    returnTo (.frame n buf) (.c2 :: st) s =
      { s with fgAt := .d0 (buttonOf s.cfg n buf), callStack := .line .c3 :: st } := rfl

/-- A return moves the foreground, and hands a value to an operation run alone; it writes nothing else. -/
theorem returnTo_frame (st : List Cont) : ∀ (v : Value) (s : State),
    ∃ l st' r, returnTo v st s = { s with fgAt := l, callStack := st', ret := r } := by
  induction st with
  | nil => exact fun v s => ⟨_, _, _, rfl⟩
  | cons c st ih =>
    intro v s
    cases c with
    | line l => exact ⟨_, _, _, rfl⟩
    | alone l => exact ⟨_, _, _, rfl⟩
    | c2 => exact ⟨_, _, _, rfl⟩
    | s2 d =>
      by_cases hv : v = .bool true
      · simp only [returnTo, hv, if_true]; exact ih _ _
      · simp only [returnTo, hv, if_false]; exact ⟨_, _, _, rfl⟩
    | k3 =>
      by_cases hv : v = .bool true
      · simp only [returnTo, hv, if_true]; exact ⟨_, _, _, rfl⟩
      · simp only [returnTo, hv, if_false]; exact ih _ _

/-- Where a return goes, and whether it hands its value over, depends on the value, the call stack and the button
table alone; every other field is carried along. -/
theorem returnTo_uniform (v : Value) (st : List Cont) (cfg : Config) :
    ∃ l st' r, ∀ s : State, s.cfg = cfg →
      returnTo v st s = { s with fgAt := l, callStack := st', ret := Option.getD r s.ret } := by
  induction st generalizing v with
  | nil => exact ⟨_, _, none, fun _ _ => rfl⟩
  | cons c st ih =>
    cases c with
    | line l => exact ⟨_, _, none, fun _ _ => rfl⟩
    | alone l => exact ⟨_, _, some v, fun _ _ => rfl⟩
    | c2 => exact ⟨.d0 (buttonOfValue cfg v), .line .c3 :: st, none, fun s h => by subst h; rfl⟩
    | s2 d =>
      by_cases hv : v = .bool true
      · simp only [returnTo, hv, if_true]; exact ih _
      · simp only [returnTo, hv, if_false]; exact ⟨_, _, none, fun _ _ => rfl⟩
    | k3 =>
      by_cases hv : v = .bool true
      · simp only [returnTo, hv, if_true]; exact ⟨_, _, none, fun _ _ => rfl⟩
      · simp only [returnTo, hv, if_false]; exact ih _

/-- Lines run one after another. -/
theorem runLines_add (m n : Nat) (s : State) :
    runLines (m + n) s = andThen (runLines m s) (runLines n) := by
  induction m generalizing s with
  | zero => simp [runLines]
  | succ m ih =>
    rw [Nat.succ_add]
    simp only [runLines]
    cases fgLine s <;> simp [andThen, ih]

/-! ## The script -/

/-- Arguments given to an operation are written to the operand cells and nowhere else. -/
theorem writeOperand_frame (o : Operand) (s : State) :
    ∃ a b n ds buf, writeOperand o s =
      { s with argLater := a, argEarlier := b, argMs := n, argDs := ds, argBuf := buf } := by
  cases o <;> exact ⟨_, _, _, _, _, rfl⟩

/-- A foreground line of an `ITER` does what the line does, and at C1 with nothing called it ends the entry. -/
theorem iterLine_eq_next {rest : List Stimulus} {s t : State} (h : iterLine rest s = .next t) :
    ∃ u, fgLine s = .next u ∧ t = if atIterationStart u then { u with stimuli := rest } else u := by
  obtain ⟨u, hu, ht⟩ := andThen_eq_next h
  cases ht
  exact ⟨u, hu, rfl⟩

/-- A step of an `ITER` in progress is a foreground line, or the move it states for the line the foreground is at. -/
theorem iterStep_cases (inside : List (Label × Move)) (rest : List Stimulus) (s : State) :
    (∃ more, iterStep inside rest s = iterLine rest { s with stimuli := .iterating more :: rest }) ∨
    (∃ l m more, inside = (l, m) :: more ∧ labelOf s.fgAt = l ∧ m ≠ .foreground ∧
      iterStep inside rest s = runMove m { s with stimuli := .iterating more :: rest }) := by
  match inside with
  | [] => exact .inl ⟨[], rfl⟩
  | (l, m) :: more =>
    by_cases hl : labelOf s.fgAt = l
    · by_cases hm : m = .foreground
      · exact .inl ⟨more, by simp only [iterStep, if_pos hl, if_pos hm]⟩
      · exact .inr ⟨l, m, more, rfl, hl, hm, by simp only [iterStep, if_pos hl, if_neg hm]⟩
    · exact .inl ⟨(l, m) :: more, by simp only [iterStep, if_neg hl]⟩

/-- Everything a step that answers can be: a free move, a scripted move (alone or inside an `ITER`), an operation run
alone, arguments for one, or a foreground line (the script is waiting, or an `ITER` is in progress). -/
theorem step_cases {s t : State} (h : step s = .next t) :
    configOk s.cfg = true ∧
    ((s.stimuli = [] ∧ runMove (Config.freeMove s.draws) { s with draws := s.draws + 1 } = .next t) ∨
     (∃ m rest, s.stimuli = .move m :: rest ∧ runMove m { s with stimuli := rest } = .next t) ∨
     (∃ l m more rest st, (s.stimuli = .iter ((l, m) :: more) :: rest ∨
        s.stimuli = .iterating ((l, m) :: more) :: rest) ∧ runMove m { s with stimuli := st } = .next t) ∨
     (∃ bytes i rest, s.stimuli = .code bytes :: rest ∧ decode bytes = .ok i ∧ canRun i s = true ∧
        exec i { s with stimuli := rest } = .next t) ∨
     (∃ o rest, s.stimuli = .operand o :: rest ∧ t = writeOperand o { s with stimuli := rest }) ∨
     (∃ st u, fgLine { s with stimuli := st } = .next u ∧ ∃ st', t = { u with stimuli := st' })) := by
  have iterCase : ∀ inside rest, (s.stimuli = .iter inside :: rest ∨ s.stimuli = .iterating inside :: rest) →
      iterStep inside rest s = .next t →
      (∃ l m more rest st, (s.stimuli = .iter ((l, m) :: more) :: rest ∨
        s.stimuli = .iterating ((l, m) :: more) :: rest) ∧ runMove m { s with stimuli := st } = .next t) ∨
      (∃ st u, fgLine { s with stimuli := st } = .next u ∧ ∃ st', t = { u with stimuli := st' }) := by
    intro inside rest hs hi
    rcases iterStep_cases inside rest s with ⟨more, he⟩ | ⟨l, m, more, rfl, -, -, he⟩
    · rw [he] at hi
      obtain ⟨u, hu, rfl⟩ := iterLine_eq_next hi
      refine .inr ⟨_, u, hu, ?_⟩
      split
      · exact ⟨_, rfl⟩
      · exact ⟨u.stimuli, rfl⟩
    · exact .inl ⟨l, m, more, rest, _, hs, he ▸ hi⟩
  unfold step at h
  split at h
  · refine ⟨‹_›, ?_⟩
    split at h
    · exact .inl ⟨‹_›, h⟩
    · exact .inr (.inl ⟨_, _, ‹_›, h⟩)
    · split at h
      · split at h
        · exact .inr (.inr (.inr (.inl ⟨_, _, _, ‹_›, ‹_›, ‹_›, h⟩)))
        · exact .inr (.inr (.inr (.inr (.inr ⟨s.stimuli, t, h, t.stimuli, rfl⟩))))
      · cases h
    · cases h
      exact .inr (.inr (.inr (.inr (.inl ⟨_, _, ‹_›, rfl⟩))))
    · split at h
      · rcases iterCase _ _ (.inl ‹_›) h with hm | hf
        · exact .inr (.inr (.inl hm))
        · exact .inr (.inr (.inr (.inr (.inr hf))))
      · exact .inr (.inr (.inr (.inr (.inr ⟨s.stimuli, t, h, t.stimuli, rfl⟩))))
    · rcases iterCase _ _ (.inr ‹_›) h with hm | hf
      · exact .inr (.inr (.inl hm))
      · exact .inr (.inr (.inr (.inr (.inr hf))))
  · cases h

end Sys2Proof.Machine
end

