-- ==== Sys2Proof/Laws/PerInstr.lean ====
section
/-! SUPPORT. One lemma per constructor about the instruction as syntax: how many bytes its code has, four for an
infrared frame (30_encoding.md R57) and one for an OP8 operation (R69). -/

namespace Sys2Proof.Laws.CodeLength

/-- The length of an operation's code. -/
def bytes : Instr → Nat
  | .irOn | .irOff | .irUp | .irDown | .irSet | .irUnknown _ => 4
  | .now | .timerStep | .wrapSub | .ticksFor | .setDirection _ | .goHome | .onRotationTick
  | .onEndswitchTriggered | .checkStopConditions | .upStopCondition | .downStopCondition | .error
  | .enterError _ | .trigger | .isActive | .regularCheck | .irReadFrame | .irDecode | .decodeButton
  | .dispatch _ | .onComparatorEdge _ | .loopIteration | .ledValue => 1

/-- The encoder writes exactly that many bytes. -/
def Statement (i : Instr) : Prop := (encode i).length = bytes i

theorem irOn : Statement .irOn := rfl
theorem irOff : Statement .irOff := rfl
theorem irUp : Statement .irUp := rfl
theorem irDown : Statement .irDown := rfl
theorem irSet : Statement .irSet := rfl
theorem irUnknown (w : FrameWord) : Statement (.irUnknown w) := rfl
theorem now : Statement .now := rfl
theorem timerStep : Statement .timerStep := rfl
theorem wrapSub : Statement .wrapSub := rfl
theorem ticksFor : Statement .ticksFor := rfl
theorem setDirection (d : Direction) : Statement (.setDirection d) := rfl
theorem goHome : Statement .goHome := rfl
theorem onRotationTick : Statement .onRotationTick := rfl
theorem onEndswitchTriggered : Statement .onEndswitchTriggered := rfl
theorem checkStopConditions : Statement .checkStopConditions := rfl
theorem upStopCondition : Statement .upStopCondition := rfl
theorem downStopCondition : Statement .downStopCondition := rfl
theorem error : Statement .error := rfl
theorem enterError (k : FaultKind) : Statement (.enterError k) := rfl
theorem trigger : Statement .trigger := rfl
theorem isActive : Statement .isActive := rfl
theorem regularCheck : Statement .regularCheck := rfl
theorem irReadFrame : Statement .irReadFrame := rfl
theorem irDecode : Statement .irDecode := rfl
theorem decodeButton : Statement .decodeButton := rfl
theorem dispatch (b : Button) : Statement (.dispatch b) := rfl
theorem onComparatorEdge (level : Bool) : Statement (.onComparatorEdge level) := rfl
theorem loopIteration : Statement .loopIteration := rfl
theorem ledValue : Statement .ledValue := rfl

end Sys2Proof.Laws.CodeLength
end

