-- ==== Sys2Proof/Tests/Slice0.lean ====
section
/-! SUPPORT. The model's own tests: which terms are ill formed, codes written out from the spec's encodings, single
steps with the results of 95_test_vectors.md, and for every statement with hypotheses a state that meets them. -/

namespace Sys2Proof.Tests

open Sys2Proof.Machine Sys2Proof.Safety

/-! ## Helpers -/

/-- Boot complete, the foreground at C1, the line idle, the switch released. -/
def ready : State := { State.reset with fgAt := .c1, irqEnabled := true }

/-- Short thresholds, so that a waveform is a few samples. -/
def shortConfig : Config := { Config.reference with irBitPerMhz := 1, irEofPerMhz := 3 }

/-- `ready` under the short thresholds, the line low and these high phases to come. -/
def receiving (ds : List Nat) : State :=
  { ready with cfg := shortConfig, irLine := false, irNext := waveSamples ds }

/-- Answers exactly this next state. -/
def nextIs (o : Result) (t : State) : Bool :=
  match o with
  | .next u => decide (u = t)
  | .fault _ => false
  | .refused _ => false

/-- Answers a next state that shows this. -/
def shows (o : Result) (p : State → Bool) : Bool :=
  match o with
  | .next u => p u
  | .fault _ => false
  | .refused _ => false

/-- The two steps of an operation with its arguments in the script. -/
def twoSteps (s : State) (script : List Stimulus) : Result := andThen (step (loadScript s script)) step

/-- Is refused for this reason. -/
def refusedFor (o : Result) (r : Refusal) : Bool :=
  match o with
  | .next _ => false
  | .fault _ => false
  | .refused q => decide (q = r)

/-! ## Well-formedness: the one check, R59 and R60 -/

theorem test_known_frame_is_not_unknown :
    (Instr.irUnknown 0xE0D504FB#32).wellFormed = false ∧ (Instr.irUnknown 0xE0D544BB#32).wellFormed = false ∧
    (Instr.irUnknown 0xE0D506F9#32).wellFormed = false ∧ (Instr.irUnknown 0xE0D526D9#32).wellFormed = false ∧
    (Instr.irUnknown 0xE0D550AF#32).wellFormed = false := by decide

theorem test_other_frame_is_unknown : (Instr.irUnknown 0xE0D504FA#32).wellFormed = true := by decide

/-! ## Decoding: words written out bit by bit from R57, R59 (table S6 of 95_test_vectors.md) and R69 -/

theorem test_decode_irOn :
    decode [0b11100000#8, 0b11010101#8, 0b00000100#8, 0b11111011#8] = .ok .irOn := by decide
theorem test_decode_irOff :
    decode [0b11100000#8, 0b11010101#8, 0b01000100#8, 0b10111011#8] = .ok .irOff := by decide
theorem test_decode_irUp :
    decode [0b11100000#8, 0b11010101#8, 0b00000110#8, 0b11111001#8] = .ok .irUp := by decide
theorem test_decode_irDown :
    decode [0b11100000#8, 0b11010101#8, 0b00100110#8, 0b11011001#8] = .ok .irDown := by decide
theorem test_decode_irSet :
    decode [0b11100000#8, 0b11010101#8, 0b01010000#8, 0b10101111#8] = .ok .irSet := by decide
theorem test_decode_irUnknown :
    decode [0xE1#8, 0xD5#8, 0x04#8, 0xFB#8] = .ok (.irUnknown 0xE1D504FB#32) := by decide
theorem test_decode_now : decode [0b00000000#8] = .ok .now := by decide
theorem test_decode_timerStep : decode [0b00001000#8] = .ok .timerStep := by decide
theorem test_decode_wrapSub : decode [0b00010000#8] = .ok .wrapSub := by decide
theorem test_decode_ticksFor : decode [0b00011000#8] = .ok .ticksFor := by decide
theorem test_decode_setDirection :
    decode [0b00100000#8] = .ok (.setDirection .neutral) ∧ decode [0b00100001#8] = .ok (.setDirection .up) ∧
    decode [0b00100010#8] = .ok (.setDirection .down) := by decide
theorem test_decode_goHome : decode [0b00101000#8] = .ok .goHome := by decide
theorem test_decode_onRotationTick : decode [0b00110000#8] = .ok .onRotationTick := by decide
theorem test_decode_onEndswitchTriggered : decode [0b00111000#8] = .ok .onEndswitchTriggered := by decide
theorem test_decode_checkStopConditions : decode [0b01000000#8] = .ok .checkStopConditions := by decide
theorem test_decode_upStopCondition : decode [0b01001000#8] = .ok .upStopCondition := by decide
theorem test_decode_downStopCondition : decode [0b01010000#8] = .ok .downStopCondition := by decide
theorem test_decode_error : decode [0b01011000#8] = .ok .error := by decide
theorem test_decode_enterError :
    decode [0b01100001#8] = .ok (.enterError .endSwitchFault) ∧
    decode [0b01100010#8] = .ok (.enterError .rotationFault) := by decide
theorem test_decode_trigger : decode [0b01101000#8] = .ok .trigger := by decide
theorem test_decode_isActive : decode [0b01110000#8] = .ok .isActive := by decide
theorem test_decode_regularCheck : decode [0b01111000#8] = .ok .regularCheck := by decide
theorem test_decode_irReadFrame : decode [0b10000000#8] = .ok .irReadFrame := by decide
theorem test_decode_irDecode : decode [0b10001000#8] = .ok .irDecode := by decide
theorem test_decode_decodeButton : decode [0b10010000#8] = .ok .decodeButton := by decide
theorem test_decode_dispatch :
    decode [0b10011000#8] = .ok (.dispatch .on) ∧ decode [0b10011001#8] = .ok (.dispatch .off) ∧
    decode [0b10011010#8] = .ok (.dispatch .up) ∧ decode [0b10011011#8] = .ok (.dispatch .down) ∧
    decode [0b10011100#8] = .ok (.dispatch .set) ∧ decode [0b10011101#8] = .ok (.dispatch .unknown) := by decide
theorem test_decode_onComparatorEdge :
    decode [0xA0#8] = .ok (.onComparatorEdge false) ∧ decode [0xA1#8] = .ok (.onComparatorEdge true) := by decide
theorem test_decode_loopIteration : decode [0xA8#8] = .ok .loopIteration := by decide
theorem test_decode_ledValue : decode [0b10110000#8] = .ok .ledValue := by decide

theorem test_decode_rejects_by_name :
    decode [0b00100011#8] = .error (.badArgument 4 3) ∧ decode [0b00000001#8] = .error (.badArgument 0 1) ∧
    decode [0b10011110#8] = .error (.badArgument 19 6) ∧ decode [0b11111000#8] = .error (.noSuchIndex 31) ∧
    decode [0xE0#8, 0xD5#8, 0x04#8] = .error (.wrongLength 3) ∧ decode [] = .error (.wrongLength 0) := by decide

theorem test_table_words :
    decodeTableWord 32 0xE0D526D9 = some .irDown ∧ decodeTableWord 8 0xA8 = some .loopIteration ∧
    decodeTableWord 8 0x60 = none := by decide

theorem test_withFetchWord_runs_first :
    shows (step (State.reset.withFetchWord 8 0x68)) (fun t => t.monoActive) = true ∧
    shows (step (State.reset.withFetchWord 32 0xE0D504FB)) (fun t => t.motorDown) = true := by decide

/-- 95_test_vectors.md starts its programs with boot complete: after a load an edge reaches the handler. -/
theorem test_withFetchWord_boot_complete :
    shows (step (State.reset.withFetchWord 8 0x68)) (fun t =>
      shows (runMove (.compEdge true) t) (fun u => u.bias)) = true := by decide

/-! ## Clock (CK) -/

theorem test_now_CK9 : nextIs (exec .now { ready with tick := 0x1234#16 })
    { ready with tick := 0x1234#16, ret := .tick 0x1234#16 } = true := by decide
theorem test_timerStep_CK7 : nextIs (exec .timerStep { ready with tick := 0xFFFF#16 }) ready = true := by decide
theorem test_timerStep_CK8 : nextIs (exec .timerStep { ready with tick := 0x00FF#16 })
    { ready with tick := 0x0100#16 } = true := by decide
/-- CK1 as a script: the arguments, then the operation. -/
theorem test_wrapSub_CK1 :
    shows (twoSteps ready (scriptWrapSub 0x0005#16 0xFFFB#16))
      (fun t => decide (t.ret = .tick 10#16)) = true := by decide
theorem test_wrapSub_CK4 :
    shows (exec .wrapSub { ready with argLater := 0x0000#16, argEarlier := 0x0001#16 })
      (fun t => decide (t.ret = .tick 65535#16)) = true := by decide
theorem test_ticksFor_CK16 :
    shows (exec .ticksFor { ready with argMs := 2097, cfg := { Config.reference with tickHzNum := 15625 } })
      (fun t => decide (t.ret = .tick 32765#16)) = true := by decide
/-- CK12 and CK13 as scripts, under `TICK_HZ = 1000`. -/
theorem test_ticksFor_CK12_CK13 :
    shows (twoSteps ready (scriptTicksFor 32767)) (fun t => decide (t.ret = .tick 32767#16)) = true ∧
    refusedFor (twoSteps ready (scriptTicksFor 32768)) .ticksOutOfRange = true := by decide
theorem test_config_CK18_CK19 :
    configOk { Config.reference with tickHzNum := 32768 } = false ∧
    configOk { Config.reference with tickHzDen := 2000 } = false ∧ configOk Config.reference = true := by decide

/-! ## Screen (SC, SD, GH, RT, ES, CS, EE) -/

theorem test_upStopCondition_SC2 :
    shows (exec .upStopCondition { ready with endSwitchN := false }) (fun t => decide (t.ret = .bool true)) = true ∧
    shows (exec .upStopCondition ready) (fun t => decide (t.ret = .bool false)) = true := by decide
theorem test_upStopCondition_SC3_SC4 :
    shows (exec .upStopCondition { ready with pos := -3 }) (fun t => decide (t.ret = .bool false)) = true ∧
    shows (exec .upStopCondition { ready with pos := -4 }) (fun t => decide (t.ret = .bool true)) = true := by decide
theorem test_downStopCondition_SC6_SC7 :
    shows (exec .downStopCondition { ready with pos := 257 }) (fun t => decide (t.ret = .bool false)) = true ∧
    shows (exec .downStopCondition { ready with pos := 258 }) (fun t => decide (t.ret = .bool true)) = true := by
  decide
theorem test_downStopCondition_SC9 :
    shows (exec .downStopCondition { ready with pos := 100, err := .rotationFault })
      (fun t => decide (t.ret = .bool true)) = true := by decide
theorem test_setDirection_SD1 :
    nextIs (exec (.setDirection .down) { ready with pos := 100, tick := 500#16 })
      { ready with pos := 100, tick := 500#16, motorDown := true, dir := .down, ltt := 500#16 } = true := by decide
theorem test_setDirection_SD4 :
    let s := { ready with dir := .down, motorDown := true, pos := 100, ltt := 50#16, endSwitchN := false }
    nextIs (exec (.setDirection .up) s) s = true := by decide
theorem test_goHome_GH2 :
    nextIs (exec .goHome { ready with err := .rotationFault, pos := 37, tick := 7000#16 })
      { ready with pos := 258, tick := 7000#16, dir := .up, motorUp := true, ltt := 7000#16 } = true := by decide
theorem test_goHome_GH6 :
    nextIs (exec .goHome { ready with err := .rotationFault, pos := 37, swNext := [false] })
      { ready with pos := 258, endSwitchN := false } = true := by decide
theorem test_onRotationTick_RT2 :
    nextIs (exec .onRotationTick { ready with dir := .up, tick := 812#16 })
      { ready with dir := .up, tick := 812#16, pos := -1, ltt := 812#16 } = true := by decide
theorem test_onRotationTick_RT3 :
    nextIs (exec .onRotationTick { ready with pos := 7, ltt := 3#16, tick := 90#16 })
      { ready with pos := 7, ltt := 90#16, tick := 90#16 } = true := by decide
theorem test_onEndswitchTriggered_ES1 :
    nextIs (exec .onEndswitchTriggered { ready with dir := .up, pos := 131 })
      { ready with dir := .up, pos := 0 } = true := by decide
theorem test_onEndswitchTriggered_ES3 :
    nextIs (exec .onEndswitchTriggered { ready with dir := .down, pos := 3 })
      { ready with dir := .down, pos := 3 } = true := by decide
theorem test_checkStopConditions_CS4_CS5 :
    let s := { ready with dir := .down, motorDown := true, pos := 50, ltt := 0xFF00#16 }
    nextIs (exec .checkStopConditions { s with tick := 0x02E8#16 }) { s with tick := 0x02E8#16 } = true ∧
    nextIs (exec .checkStopConditions { s with tick := 0x02E9#16 })
      { s with tick := 0x02E9#16, dir := .neutral, motorDown := false, err := .rotationFault } = true := by decide
theorem test_checkStopConditions_CS11_CS12 :
    shows (exec .checkStopConditions { ready with dir := .up, pos := -10, ltt := 100#16, tick := 2000#16 })
      (fun t => decide (t.err = .rotationFault)) = true ∧
    shows (exec .checkStopConditions { ready with dir := .up, pos := -4, endSwitchN := false })
      (fun t => decide (t.err = .endSwitchFault)) = true := by decide
theorem test_error_EE2 : nextIs (exec .error { ready with err := .rotationFault })
    { ready with err := .rotationFault, ret := .err .rotationFault } = true := by decide
theorem test_enterError_EE1 :
    nextIs (exec (.enterError .rotationFault) { ready with dir := .down, motorDown := true, pos := 5, ltt := 9#16 })
      { ready with pos := 5, ltt := 9#16, err := .rotationFault } = true := by decide
/-- CS15: the event came after K1a; the fault is declared on the reference read before it. -/
theorem test_stall_line_CS15 :
    shows (fgLine { ready with fgAt := .k1b 100#16, dir := .down, ltt := 1101#16, tick := 1101#16 })
      (fun t => decide (t.fgAt = .e1 .rotationFault)) = true := by decide

/-- CS15 as the line of a script: the edge stated before K1b stamps `ltt` at 1101 and K1b is still to run. -/
theorem test_iter_inside_CS15 :
    nextIs (step { ready with fgAt := .k1b 100#16, callStack := [.line .c5], dir := .down, pos := 100,
                              tick := 1101#16, ltt := 100#16,
                              stimuli := [.iterating [(.k1b, .compEdge true)]] })
      { ready with fgAt := .k1b 100#16, callStack := [.line .c5], dir := .down, pos := 101, tick := 1101#16,
                   ltt := 1101#16, biasReg := true, bias := true, lastLevel := true,
                   stimuli := [.iterating []] } = true := by decide
/-- The line C5 of the iteration ends its `ITER`. -/
theorem test_iter_ends_at_C5 :
    nextIs (step { ready with fgAt := .c5, stimuli := [.iterating [], .move .timer] })
      { ready with stimuli := [.move .timer] } = true := by decide

/-! ## Monoflop (MF) -/

theorem test_trigger_MF7 :
    nextIs (exec .trigger { ready with monoTrig := 1200#16, monoActive := true, tick := 3000#16 })
      { ready with monoTrig := 3000#16, monoActive := true, tick := 3000#16 } = true := by decide
theorem test_isActive_MF9 :
    shows (exec .isActive { ready with monoTrig := 1200#16, monoActive := true, tick := 9000#16 })
      (fun t => decide (t.ret = .bool true)) = true := by decide
theorem test_regularCheck_MF4 :
    shows (exec .regularCheck { ready with monoTrig := 0xFF00#16, monoActive := true, tick := 0x1288#16 })
      (fun t => t.monoActive) = true := by decide
theorem test_regularCheck_MF5 :
    shows (exec .regularCheck { ready with monoTrig := 0xFF00#16, monoActive := true, tick := 0x1289#16 })
      (fun t => !t.monoActive) = true := by decide

/-! ## InfraredDecoder (IR, DB) -/

/-- IR2 on a waveform: two bits, a 1 and a 0, no complete byte. -/
theorem test_irReadFrame_IR2 :
    nextIs (exec .irReadFrame (receiving [3, 1]))
      { ready with cfg := shortConfig, ret := .frame 0 ⟨0x80#8, 0#8, 0#8, 0#8⟩ } = true := by decide
/-- R56: five high samples end the frame under `IR_T_EOF = 3`, and the levels after them stay on the port. -/
theorem test_irReadFrame_over_long :
    let s := { ready with cfg := shortConfig, irLine := false }
    nextIs (exec .irReadFrame { s with irNext := [true, true, true, true, true, false, true] })
      { s with irNext := [true], ret := .frame 0 ⟨0#8, 0#8, 0#8, 0#8⟩ } = true := by decide
/-- R110: the line stays low and the read waits at I1. -/
theorem test_irReadFrame_waits :
    shows (exec .irReadFrame { ready with irLine := false }) (fun t => decide (t.fgAt = .i1)) = true := by decide
/-- IR8: an end of frame inside the durations. -/
theorem test_irDecode_IR8 :
    shows (twoSteps ready (scriptIrDecode [128, 128, 128, 1501, 128, 128]))
      (fun t => decide (t.ret = .frame 0 ⟨0xE0#8, 0#8, 0#8, 0#8⟩)) = true := by decide
/-- IR5: the first 31 durations of On, three complete bytes. -/
theorem test_irDecode_IR5 :
    shows (exec .irDecode { ready with argDs :=
        [128, 128, 128, 127, 127, 127, 127, 127, 128, 128, 127, 128, 127, 128, 127, 128] ++
        [127, 127, 127, 127, 127, 128, 127, 127, 128, 128, 128, 128, 128, 127, 128] })
      (fun t => decide (t.ret = .frame 3 ⟨0xE0#8, 0xD5#8, 0x04#8, 0xFA#8⟩)) = true := by decide +kernel
theorem test_decodeButton_DB4 :
    shows (twoSteps ready (scriptDecodeButton ⟨0xE0#8, 0xD5#8, 0x26#8, 0xD9#8⟩))
      (fun t => decide (t.ret = .button .down)) = true := by decide
theorem test_decodeButton_DB9 :
    shows (exec .decodeButton { ready with argBuf := ⟨0xE0#8, 0xD5#8, 0xFB#8, 0x04#8⟩ })
      (fun t => decide (t.ret = .button .unknown)) = true := by decide

/-! ## Dispatcher (DP) -/

theorem test_irOn_DP1 : nextIs (exec .irOn { ready with tick := 100#16 })
    { ready with tick := 100#16, motorDown := true, dir := .down, ltt := 100#16, monoTrig := 100#16,
                 monoActive := true } = true := by decide
theorem test_irOn_DP2 :
    nextIs (exec .irOn { ready with err := .rotationFault, pos := 37, tick := 7000#16 })
      { ready with pos := 258, tick := 7000#16, motorUp := true, dir := .up, ltt := 7000#16 } = true := by decide
theorem test_irOff_DP6 : nextIs (exec .irOff { ready with pos := 200, tick := 40#16 })
    { ready with pos := 200, tick := 40#16, motorUp := true, dir := .up, ltt := 40#16, monoTrig := 40#16,
                 monoActive := true } = true := by decide
theorem test_irOff_DP7 : nextIs (exec .irOff { ready with err := .rotationFault, tick := 40#16 })
    { ready with err := .rotationFault, tick := 40#16, monoTrig := 40#16, monoActive := true } = true := by decide
theorem test_irUp_DP9 :
    nextIs (exec .irUp { ready with monoActive := true, monoTrig := 250#16, pos := 100, tick := 300#16 })
      { ready with monoActive := true, monoTrig := 250#16, pos := 100, tick := 300#16, motorUp := true, dir := .up,
                   ltt := 300#16 } = true := by decide
theorem test_irUp_DP10 : nextIs (exec .irUp { ready with dir := .down, motorDown := true }) ready = true := by decide
theorem test_irDown_DP11 :
    let s := { ready with monoActive := true, dir := .down, motorDown := true, ltt := 20#16, tick := 300#16 }
    nextIs (exec .irDown s) s = true := by decide
theorem test_irDown_DP12 : nextIs (exec .irDown { ready with dir := .down, motorDown := true }) ready = true := by
  decide
theorem test_irSet_DP14 :
    let s := { ready with dir := .down, motorDown := true, pos := 9 }
    nextIs (exec .irSet s) s = true := by decide
theorem test_irUnknown_DP15 :
    nextIs (exec (.irUnknown 0xE0D504FA#32) { ready with dir := .up, motorUp := true, ltt := 10#16 })
      { ready with ltt := 10#16 } = true := by decide
theorem test_dispatch_DP4 : nextIs (exec (.dispatch .on) { ready with pos := 258, tick := 70#16 })
    { ready with pos := 258, tick := 70#16, monoTrig := 70#16, monoActive := true } = true := by decide
theorem test_dispatch_DP3 : nextIs (exec (.dispatch .on) { ready with err := .endSwitchFault, tick := 70#16 })
    { ready with err := .endSwitchFault, tick := 70#16, monoTrig := 70#16, monoActive := true } = true := by decide

/-! ## RotationEdgeHandler (EH) -/

theorem test_onComparatorEdge_EH1 :
    nextIs (exec (.onComparatorEdge true) { ready with dir := .down, pos := 12, tick := 4400#16 })
      { ready with dir := .down, pos := 13, tick := 4400#16, biasReg := true, bias := true, lastLevel := true,
                   ltt := 4400#16 } = true := by decide
theorem test_onComparatorEdge_EH2 :
    let s := { ready with dir := .down, pos := 13, tick := 4410#16, lastLevel := true, ltt := 4400#16 }
    nextIs (exec (.onComparatorEdge true) { s with biasReg := true, bias := true }) s = true := by decide

/-! ## Control loop and LED (CL, LD) -/

theorem test_loopIteration_CL7 :
    nextIs (exec .loopIteration { ready with dir := .up, motorUp := true, pos := -4, endSwitchN := false })
      { ready with pos := 0, endSwitchN := false } = true := by decide
theorem test_loopIteration_CL4 :
    nextIs (exec .loopIteration { receiving [] with dir := .down, motorDown := true })
      { ready with cfg := shortConfig } = true := by decide
theorem test_ledValue_LD5 :
    shows (exec .ledValue { ready with err := .rotationFault, monoActive := true, tick := 0xEE53#16 })
      (fun t => decide (t.ret = .bool false)) = true := by decide
theorem test_ledValue_LD6_LD7 :
    shows (exec .ledValue { ready with err := .endSwitchFault, tick := 0x0400#16 })
      (fun t => decide (t.ret = .bool true)) = true ∧
    shows (exec .ledValue { ready with err := .endSwitchFault, tick := 0x03FF#16 })
      (fun t => decide (t.ret = .bool false)) = true := by decide

/-! ## Witnesses: for every statement with hypotheses, and for each of its clauses, a state that meets them -/

/-- `ready` with a script. -/
def scripted (m : List Stimulus) : State := { ready with stimuli := m }

/-- Moving down from the middle of the range. -/
def lowering : State := { ready with dir := .down, motorDown := true, pos := 100 }

/-- Moving up from the middle of the range. -/
def raising : State := { ready with dir := .up, motorUp := true, pos := 100 }

theorem witness_DecodeOfEncodeIsTheOperation : ∃ i : Instr, i.wellFormed = true :=
  ⟨.irUnknown 0xE0D504FA#32, by decide⟩

theorem witness_EncodeOfDecodeIsTheBytes : ∃ (bs : List Byte) (i : Instr), decode bs = .ok i :=
  ⟨[0xA8#8], .loopIteration, by decide⟩

theorem witness_StepRunsDecodedOperation :
    (∃ (s : State) (bytes : List Byte) (rest : List Stimulus) (i : Instr), configOk s.cfg = true ∧
      s.stimuli = .code bytes :: rest ∧ decode bytes = .ok i ∧ contextOf i ≠ .foreground) ∧
    (∃ (s : State) (bytes : List Byte) (rest : List Stimulus) (i : Instr), configOk s.cfg = true ∧
      s.stimuli = .code bytes :: rest ∧ decode bytes = .ok i ∧ contextOf i = .foreground ∧
      s.callStack = [] ∧ isLoopLine s.fgAt = true) :=
  ⟨⟨scripted [.code [0x08#8]], [0x08#8], [], .timerStep, by decide⟩,
   ⟨scripted [.code [0xA8#8]], [0xA8#8], [], .loopIteration, by decide⟩⟩

theorem witness_BusyForegroundFinishesFirst :
    (∃ (s : State) (inside : List (Label × Move)) (rest : List Stimulus), configOk s.cfg = true ∧
      s.stimuli = .iter inside :: rest ∧ s.callStack ≠ [] ∧ s.fgAt = .c1) ∧
    (∃ (s : State) (inside : List (Label × Move)) (rest : List Stimulus), configOk s.cfg = true ∧
      s.stimuli = .iter inside :: rest ∧ s.callStack = [] ∧ s.fgAt ≠ .c1) ∧
    (∃ (s : State) (bytes : List Byte) (rest : List Stimulus) (i : Instr), configOk s.cfg = true ∧
      s.stimuli = .code bytes :: rest ∧ decode bytes = .ok i ∧ contextOf i = .foreground ∧ s.callStack ≠ []) ∧
    (∃ (s : State) (bytes : List Byte) (rest : List Stimulus) (i : Instr), configOk s.cfg = true ∧
      s.stimuli = .code bytes :: rest ∧ decode bytes = .ok i ∧ contextOf i = .foreground ∧
      isLoopLine s.fgAt = false) :=
  ⟨⟨{ scripted [.iter []] with callStack := [.alone .c2] }, [], [], by decide⟩,
   ⟨{ scripted [.iter []] with fgAt := .c2 }, [], [], by decide⟩,
   ⟨{ scripted [.code [0xA8#8]] with fgAt := .q1, callStack := [.line .c2] }, [0xA8#8], [], .loopIteration,
    by decide⟩,
   ⟨{ scripted [.code [0xA8#8]] with fgAt := .b1 }, [0xA8#8], [], .loopIteration, by decide⟩⟩

/-- One configuration for each clause of R7, breaking that clause alone. -/
theorem witness_IllFormedConfigurationIsRefused :
    ∀ c ∈ [{ Config.reference with stallMs := 0 }, { Config.reference with stallMs := 32768 },
           { Config.reference with monoflopMs := 0 }, { Config.reference with monoflopMs := 32768 },
           { Config.reference with irBitPerMhz := 0 }, { Config.reference with irEofPerMhz := 127 },
           { Config.reference with upBound := 0 }, { Config.reference with downBound := 0 }],
      ¬ (0 < c.stallMs * c.tickHzNum / (1000 * c.tickHzDen) ∧
         c.stallMs * c.tickHzNum / (1000 * c.tickHzDen) < 32768 ∧
         0 < c.monoflopMs * c.tickHzNum / (1000 * c.tickHzDen) ∧
         c.monoflopMs * c.tickHzNum / (1000 * c.tickHzDen) < 32768 ∧
         0 < c.irBitPerMhz * c.fRefNum / c.fRefDen ∧
         c.irBitPerMhz * c.fRefNum / c.fRefDen < c.irEofPerMhz * c.fRefNum / c.fRefDen ∧
         c.upBound < 0 ∧ 0 < c.downBound) := by decide

theorem witness_UnnamedCodesAreRefused :
    configOk ready.cfg = true ∧
    (∃ b : Byte, (scripted [.code [b]]).stimuli = [.code [b]] ∧ 23 ≤ b.toNat / 8) ∧
    (∃ b : Byte, b.toNat / 8 = 4 ∧ 2 < b.toNat % 8) ∧
    (∃ b : Byte, b.toNat / 8 = 12 ∧ b.toNat % 8 ≠ 1 ∧ b.toNat % 8 ≠ 2) ∧
    (∃ b : Byte, b.toNat / 8 = 19 ∧ 5 < b.toNat % 8) ∧
    (∃ b : Byte, b.toNat / 8 = 20 ∧ 1 < b.toNat % 8) ∧
    (∃ b : Byte, b.toNat / 8 ∉ [4, 12, 19, 20] ∧ b.toNat % 8 ≠ 0) :=
  ⟨by decide, ⟨0xB8#8, by decide⟩, ⟨0x23#8, by decide⟩, ⟨0x60#8, by decide⟩, ⟨0x9E#8, by decide⟩,
   ⟨0xA2#8, by decide⟩, ⟨0x01#8, by decide⟩⟩

theorem witness_TimerAndInputMoves :
    configOk ready.cfg = true ∧
    (∃ s : State, configOk s.cfg = true ∧ s.stimuli = [.move .timer]) ∧
    (∃ s : State, configOk s.cfg = true ∧ s.stimuli = [.move (.irLine false [true])]) ∧
    (∃ s : State, configOk s.cfg = true ∧ s.stimuli = [.move (.endSwitch false [])]) ∧
    (∃ s : State, configOk s.cfg = true ∧ s.stimuli = [.move (.compEdge true)] ∧ s.irqEnabled = false) ∧
    (∃ s : State, configOk s.cfg = true ∧ s.stimuli = [.move (.compEdge true)] ∧ s.irqEnabled = true) ∧
    (∃ s : State, configOk s.cfg = true ∧ s.stimuli = [.move .foreground]) ∧
    (∀ o, configOk (scripted [.operand o]).cfg = true ∧ (scripted [.operand o]).stimuli = [.operand o]) ∧
    (∃ (s : State) (inside : List (Label × Move)), configOk s.cfg = true ∧ s.stimuli = [.iter inside] ∧
      s.callStack = [] ∧ s.fgAt = .c1) ∧
    (∃ (s : State) (l : Label) (m : Move), configOk s.cfg = true ∧ s.stimuli = [.iterating [(l, m)]] ∧
      labelOf s.fgAt = l ∧ m ≠ .foreground) ∧
    (∃ (s : State) (inside : List (Label × Move)), configOk s.cfg = true ∧ s.stimuli = [.iterating inside] ∧
      inside = [(labelOf s.fgAt, .foreground)]) ∧
    (∃ (s : State) (inside : List (Label × Move)), configOk s.cfg = true ∧ s.stimuli = [.iterating inside] ∧
      ∀ lm ∈ inside.head?, lm.1 ≠ labelOf s.fgAt) :=
  ⟨by decide, ⟨scripted [.move .timer], by decide⟩, ⟨scripted [.move (.irLine false [true])], by decide⟩,
   ⟨scripted [.move (.endSwitch false [])], by decide⟩,
   ⟨{ State.reset with stimuli := [.move (.compEdge true)] }, by decide⟩,
   ⟨scripted [.move (.compEdge true)], by decide⟩, ⟨scripted [.move .foreground], by decide⟩,
   fun _ => ⟨show configOk ready.cfg = true by decide, rfl⟩, ⟨scripted [.iter []], [], by decide⟩,
   ⟨scripted [.iterating [(.c1, .timer)]], .c1, .timer, by decide⟩,
   ⟨scripted [.iterating [(.c1, .foreground)]], [(.c1, .foreground)], by decide⟩,
   ⟨scripted [.iterating [(.k1b, .timer)]], [(.k1b, .timer)], by decide⟩⟩

theorem witness_ResetMoveLeavesTheStatedValues :
    ∃ (s : State) (rest : List Stimulus), configOk s.cfg = true ∧ s.stimuli = .move .reset :: rest :=
  ⟨{ lowering with stimuli := [.move .reset] }, [], by decide⟩

theorem witness_BootEnablesTheInterruptAndEntersTheLoop :
    (∃ s : State, s.fgAt = .b1 ∧ s.callStack = [] ∧ s.cfg.bootHoming = false) ∧
    (∃ s : State, s.fgAt = .b1 ∧ s.callStack = [] ∧ s.cfg.bootHoming = true) :=
  ⟨⟨State.reset, by decide⟩,
   ⟨State.resetWith { Config.reference with bootHoming := true } ResetDraws.zero, by decide⟩⟩

theorem witness_TicksForFloorsOrRefuses :
    (∃ s : State, s.argMs * s.cfg.tickHzNum / (1000 * s.cfg.tickHzDen) < 32768) ∧
    (∃ s : State, 32768 ≤ s.argMs * s.cfg.tickHzNum / (1000 * s.cfg.tickHzDen)) :=
  ⟨⟨{ ready with argMs := 32767 }, by decide⟩, ⟨{ ready with argMs := 32768 }, by decide⟩⟩

theorem witness_OnlyTheTimerMovesTheCounter :
    (∃ s t : State, fgLine s = .next t) ∧
    (∃ (i : Instr) (s t : State), i ≠ .timerStep ∧ exec i s = .next t) :=
  ⟨⟨ready, _, rfl⟩, ⟨.loopIteration, ready, _, by decide, rfl⟩⟩

theorem witness_SetDirectionAdmitted :
    (∃ s : State, s.dir ≠ .up ∧ s.err = .none ∧ s.cfg.upBound < s.pos ∧ s.endSwitchN = true) ∧
    (∃ s : State, s.dir ≠ .down ∧ s.err = .none ∧ s.pos < s.cfg.downBound) ∧
    (∃ s : State, s.dir ≠ .neutral) :=
  ⟨⟨{ ready with pos := -3 }, by decide⟩, ⟨{ ready with pos := 257 }, by decide⟩, ⟨raising, by decide⟩⟩

theorem witness_SetDirectionRefusedChangesNothing :
    (∃ s : State, s.dir ≠ .up ∧ s.err ≠ .none) ∧ (∃ s : State, s.dir ≠ .up ∧ s.pos ≤ s.cfg.upBound) ∧
    (∃ s : State, s.dir ≠ .up ∧ s.endSwitchN = false) ∧
    (∃ s : State, s.dir ≠ .down ∧ s.err ≠ .none) ∧ (∃ s : State, s.dir ≠ .down ∧ s.cfg.downBound ≤ s.pos) :=
  ⟨⟨{ ready with err := .rotationFault }, by decide⟩, ⟨{ ready with pos := -4 }, by decide⟩,
   ⟨{ lowering with endSwitchN := false }, by decide⟩, ⟨{ ready with err := .endSwitchFault }, by decide⟩,
   ⟨{ raising with pos := 258 }, by decide⟩⟩

theorem witness_SetDirectionIsIdempotent :
    (∃ s : State, s.dir = .neutral) ∧ (∃ s : State, s.dir = .up) ∧ (∃ s : State, s.dir = .down) :=
  ⟨⟨ready, by decide⟩, ⟨raising, by decide⟩, ⟨lowering, by decide⟩⟩

theorem witness_GoHomeResult :
    (∃ s : State, s.err = .endSwitchFault) ∧
    (∃ s : State, s.err ≠ .endSwitchFault ∧ s.endSwitchN = false) ∧
    (∃ s : State, s.err ≠ .endSwitchFault ∧ s.endSwitchN = true ∧ posInRange s.cfg s.cfg.downBound = true ∧
      s.dir ≠ .up ∧ (switchSampled s).endSwitchN = true ∧ s.cfg.upBound < s.cfg.downBound) ∧
    (∃ s : State, s.err ≠ .endSwitchFault ∧ s.endSwitchN = true ∧ posInRange s.cfg s.cfg.downBound = true ∧
      s.dir ≠ .up ∧ (switchSampled s).endSwitchN = false) ∧
    (∃ s : State, s.err ≠ .endSwitchFault ∧ s.endSwitchN = true ∧ posInRange s.cfg s.cfg.downBound = true ∧
      s.dir = .up) :=
  ⟨⟨{ ready with err := .endSwitchFault }, by decide⟩,
   ⟨{ ready with err := .rotationFault, endSwitchN := false }, by decide⟩,
   ⟨{ ready with err := .rotationFault, pos := 37 }, by decide⟩,
   ⟨{ ready with err := .rotationFault, pos := 37, swNext := [false] }, by decide⟩, ⟨raising, by decide⟩⟩

theorem witness_RotationTickResult :
    (∃ s : State, s.dir = .neutral) ∧
    (∃ s : State, s.dir = .down ∧ posInRange s.cfg (s.pos + 1) = true) ∧
    (∃ s : State, s.dir = .up ∧ posInRange s.cfg (s.pos - 1) = true) :=
  ⟨⟨ready, by decide⟩, ⟨{ lowering with pos := 32766 }, by decide⟩, ⟨{ raising with pos := -32767 }, by decide⟩⟩

theorem witness_PositionOutOfRangeIsRefused :
    (∃ s : State, s.dir = .down ∧ 2 ^ (s.cfg.posWidth - 1) ≤ s.pos + 1) ∧
    (∃ s : State, s.dir = .up ∧ s.pos - 1 < -(2 ^ (s.cfg.posWidth - 1))) ∧
    (∃ s : State, true ≠ s.lastLevel ∧ s.dir = .down ∧ 2 ^ (s.cfg.posWidth - 1) ≤ s.pos + 1) ∧
    (∃ s : State, true ≠ s.lastLevel ∧ s.dir = .up ∧ s.pos - 1 < -(2 ^ (s.cfg.posWidth - 1))) ∧
    (∃ s : State, s.err ≠ .endSwitchFault ∧ s.endSwitchN = true ∧
      2 ^ (s.cfg.posWidth - 1) ≤ s.cfg.downBound) :=
  ⟨⟨{ lowering with pos := 32767 }, by decide⟩, ⟨{ raising with pos := -32768 }, by decide⟩,
   ⟨{ lowering with pos := 32767 }, by decide⟩, ⟨{ raising with pos := -32768 }, by decide⟩,
   ⟨{ ready with cfg := { Config.reference with downBound := 32768 } }, by decide⟩⟩

theorem witness_EndswitchTriggeredResult : (∃ s : State, s.dir ≠ .down) ∧ (∃ s : State, s.dir = .down) :=
  ⟨⟨raising, by decide⟩, ⟨lowering, by decide⟩⟩

/-- Elapsed exactly `STALL_TICKS` is no stall, one more is (CS2, CS3). -/
theorem witness_CheckStopConditionsResult :
    (∃ s : State, s.dir = .neutral) ∧
    (∃ s : State, s.dir ≠ .neutral ∧
      s.cfg.stallMs * s.cfg.tickHzNum / (1000 * s.cfg.tickHzDen) < (s.tick - s.ltt).toNat) ∧
    (∃ s : State, s.dir = .up ∧ s.pos ≤ s.cfg.upBound ∧
      (s.tick - s.ltt).toNat ≤ s.cfg.stallMs * s.cfg.tickHzNum / (1000 * s.cfg.tickHzDen)) ∧
    (∃ s : State, s.dir = .up ∧ s.cfg.upBound < s.pos ∧ (s.err ≠ .none ∨ s.endSwitchN = false) ∧
      (s.tick - s.ltt).toNat ≤ s.cfg.stallMs * s.cfg.tickHzNum / (1000 * s.cfg.tickHzDen)) ∧
    (∃ s : State, s.dir = .up ∧ s.cfg.upBound < s.pos ∧ s.err = .none ∧ s.endSwitchN = true ∧
      (s.tick - s.ltt).toNat ≤ s.cfg.stallMs * s.cfg.tickHzNum / (1000 * s.cfg.tickHzDen)) ∧
    (∃ s : State, s.dir = .down ∧ (s.err ≠ .none ∨ s.cfg.downBound ≤ s.pos) ∧
      (s.tick - s.ltt).toNat ≤ s.cfg.stallMs * s.cfg.tickHzNum / (1000 * s.cfg.tickHzDen)) ∧
    (∃ s : State, s.dir = .down ∧ s.err = .none ∧ s.pos < s.cfg.downBound ∧
      (s.tick - s.ltt).toNat ≤ s.cfg.stallMs * s.cfg.tickHzNum / (1000 * s.cfg.tickHzDen)) :=
  ⟨⟨ready, by decide⟩, ⟨{ lowering with tick := 1001#16 }, by decide⟩,
   ⟨{ raising with pos := -4, tick := 1000#16 }, by decide⟩,
   ⟨{ raising with pos := -3, endSwitchN := false }, by decide⟩, ⟨{ raising with pos := -3 }, by decide⟩,
   ⟨{ lowering with pos := 258 }, by decide⟩, ⟨{ lowering with pos := 257, tick := 1000#16 }, by decide⟩⟩

theorem witness_StallIsDecidedOnTheReferenceReadFirst :
    (∃ (s : State) (r : ClockTick), s.fgAt = .k1b r ∧
      s.cfg.stallMs * s.cfg.tickHzNum / (1000 * s.cfg.tickHzDen) < (s.tick - r).toNat) ∧
    (∃ (s : State) (r : ClockTick), s.fgAt = .k1b r ∧
      (s.tick - r).toNat ≤ s.cfg.stallMs * s.cfg.tickHzNum / (1000 * s.cfg.tickHzDen)) :=
  ⟨⟨{ lowering with fgAt := .k1b 100#16, tick := 1101#16 }, 100#16, by decide⟩,
   ⟨{ lowering with fgAt := .k1b 100#16, tick := 1100#16 }, 100#16, by decide⟩⟩

theorem witness_OnlyTicksAndHomingMoveThePosition : ∃ s t : State, step s = .next t ∧ t.pos ≠ s.pos :=
  ⟨{ lowering with stimuli := [.move (.compEdge true)] }, _, rfl, by decide⟩

theorem witness_RegularCheckClearsAnExpiredLatch :
    (∃ s : State, s.monoActive = true ∧
      s.cfg.monoflopMs * s.cfg.tickHzNum / (1000 * s.cfg.tickHzDen) < (s.tick - s.monoTrig).toNat) ∧
    (∃ s : State, s.monoActive = true ∧
      (s.tick - s.monoTrig).toNat ≤ s.cfg.monoflopMs * s.cfg.tickHzNum / (1000 * s.cfg.tickHzDen)) ∧
    (∃ s : State, s.monoActive = false) :=
  ⟨⟨{ ready with monoActive := true, tick := 5001#16 }, by decide⟩,
   ⟨{ ready with monoActive := true, tick := 5000#16 }, by decide⟩, ⟨ready, by decide⟩⟩

/-- The Off frame on the line, through the whole iteration. -/
theorem loop_opens_on_off :
    shows (exec .loopIteration (receiving (frameDurations shortConfig 0xE0D544BB#32)))
      (fun t => t.monoActive) = true := by
  obtain ⟨x, xs, hx⟩ : ∃ x xs, x :: xs = waveSamples (frameDurations shortConfig 0xE0D544BB#32) :=
    ⟨_, _, rfl⟩
  have hd : ∀ d ∈ frameDurations shortConfig 0xE0D544BB#32, d ≤ irTEof shortConfig := by decide +kernel
  have hb : buttonOf shortConfig (irDecode shortConfig (frameDurations shortConfig 0xE0D544BB#32)).1
      (irDecode shortConfig (frameDurations shortConfig 0xE0D544BB#32)).2 = .off := by decide +kernel
  obtain ⟨n, hn⟩ := irScan_wave (irTBit shortConfig) (irTEof shortConfig) _ hd IrFrame.zero x xs hx
  rw [show receiving (frameDurations shortConfig 0xE0D544BB#32) =
      { ready with cfg := shortConfig, irLine := false, irNext := x :: xs } by rw [hx]; rfl]
  have hs : scanLine { ready with cfg := shortConfig, irLine := x, irNext := xs } = _ := hn
  unfold irDecode at hb
  unfold exec execLoopIteration
  rw [show readIrLine (regularCheck { ready with cfg := shortConfig, irLine := false, irNext := x :: xs }) =
    (false, { ready with cfg := shortConfig, irLine := x, irNext := xs }) from rfl]
  simp only [hs, Bool.false_eq_true, if_false, if_true]
  rw [show (∀ g : IrFrame, frameValue { g with d := n } = frameValue g) from fun _ => rfl, hb]
  change shows (returnsUnit (andThen (dispatch .off { ready with cfg := shortConfig }) loopTail)) _ = true
  decide

/-- Each way to open it: `trigger`, Off, On, the loop on an Off frame, line M2, and that move. -/
theorem witness_OnlyOnAndOffOpenTheWindow :
    (∀ i ∈ [Instr.trigger, .irOff, .dispatch .off, .irOn, .dispatch .on],
      shows (exec i ready) (fun t => !ready.monoActive && t.monoActive) = true) ∧
    (∃ s : State, s.monoActive = false ∧ shows (exec .loopIteration s) (fun t => t.monoActive) = true) ∧
    (∃ s t : State, fgLine s = .next t ∧ s.monoActive = false ∧ t.monoActive = true) ∧
    (∃ (m : Move) (s t : State), runMove m s = .next t ∧ s.monoActive = false ∧ t.monoActive = true) :=
  ⟨by decide,
   ⟨receiving (frameDurations shortConfig 0xE0D544BB#32), rfl, loop_opens_on_off⟩,
   ⟨{ ready with fgAt := .m2 }, _, rfl, by decide⟩,
   ⟨.foreground, { ready with fgAt := .m2 }, _, rfl, by decide⟩⟩

/-- 33 durations, an end of frame after them: the 33rd is past the frame, the last is not reached. -/
theorem witness_IrDecodeResult :
    ∃ (s : State) (ds : List Nat) (bit eof : Nat), bit = s.cfg.irBitPerMhz * s.cfg.fRefNum / s.cfg.fRefDen ∧
      eof = s.cfg.irEofPerMhz * s.cfg.fRefNum / s.cfg.fRefDen ∧
      ds = s.argDs.takeWhile (fun d => decide (d ≤ eof)) ∧ 32 < ds.length ∧ ds.length < s.argDs.length :=
  ⟨{ ready with cfg := shortConfig, argDs := List.replicate 33 3 ++ [4, 1] }, List.replicate 33 3, 1, 3, by decide⟩

theorem witness_FrameDurationsDecodeToTheWord : ∃ cfg : Config, irTBit cfg < irTEof cfg :=
  ⟨Config.reference, by decide⟩

/-- A burst that starts low and one that starts in its first high phase; the shortest and the longest high end of the
listed levels; a high phase past the end of frame with levels after it and with none; an idle line at entry. -/
theorem witness_ReadFrameReturnsTheDecodedBurst :
    (∀ p ∈ [(1, 3), (0, 0)], p.2 ≤ irTEof shortConfig) ∧
    (∃ s : State, s.cfg = shortConfig ∧ s.irLine :: s.irNext =
      ([(1, 3), (0, 0)].flatMap (fun p => List.replicate p.1 false ++ phaseSamples p.2) ++
        List.replicate 2 false) ++ List.replicate (0 + 1) true) ∧
    (∃ s : State, s.cfg = shortConfig ∧ s.irLine :: s.irNext =
      ([(0, 0)].flatMap (fun p => List.replicate p.1 false ++ phaseSamples p.2) ++ List.replicate 0 false) ++
        List.replicate (irTEof s.cfg + 1) true) ∧
    (∃ s : State, s.cfg = shortConfig ∧ s.irLine :: s.irNext =
      ([(1, 3)].flatMap (fun p => List.replicate p.1 false ++ phaseSamples p.2) ++ List.replicate 1 false) ++
        List.replicate (irTEof s.cfg + 2) true ++ [false, true]) ∧
    (∃ s : State, s.cfg = shortConfig ∧ s.irLine :: s.irNext =
      (([] : List (Nat × Nat)).flatMap (fun p => List.replicate p.1 false ++ phaseSamples p.2) ++
        List.replicate 0 false) ++ List.replicate (irTEof s.cfg + 2) true ++ []) ∧
    (∃ s : State, s.irLine :: s.irNext =
      (([] : List (Nat × Nat)).flatMap (fun p => List.replicate p.1 false ++ phaseSamples p.2) ++
        List.replicate 0 false) ++ List.replicate (0 + 1) true) :=
  ⟨by decide,
   ⟨{ ready with cfg := shortConfig, irLine := false, irNext := [true, true, true, true, false, true, false] ++
        [false, false, true] }, by decide⟩,
   ⟨{ ready with cfg := shortConfig, irNext := [false, true, true, true, true] }, by decide⟩,
   ⟨{ ready with cfg := shortConfig, irLine := false, irNext := [true, true, true, true, false] ++
        [false, true, true, true, true, true, false, true] }, by decide⟩,
   ⟨{ ready with cfg := shortConfig, irNext := [true, true, true, true] }, by decide⟩, ⟨ready, by decide⟩⟩

theorem witness_ReadOfALowLineNeverReturns :
    ∃ s : State, s.irLine = false ∧ s.irNext = [] ∧ s.fgAt = .i1 :=
  ⟨{ lowering with irLine := false, fgAt := .i1, callStack := [.c2], ir := some IrFrame.zero }, by decide⟩

/-- The six outcomes: the five known frames and another. -/
theorem witness_DecodeButtonResult :
    ready.cfg.irPrefix0 = 0xE0#8 ∧ ready.cfg.irPrefix1 = 0xD5#8 ∧
    ready.cfg.buttonTable = Config.sourceButtonTable ∧
    ∀ p ∈ [(0xE0D504FB#32, (⟨0xE0#8, 0xD5#8, 0x04#8, 0xFB#8⟩ : FrameBuf)),
           (0xE0D544BB#32, ⟨0xE0#8, 0xD5#8, 0x44#8, 0xBB#8⟩), (0xE0D506F9#32, ⟨0xE0#8, 0xD5#8, 0x06#8, 0xF9#8⟩),
           (0xE0D526D9#32, ⟨0xE0#8, 0xD5#8, 0x26#8, 0xD9#8⟩), (0xE0D550AF#32, ⟨0xE0#8, 0xD5#8, 0x50#8, 0xAF#8⟩),
           (0xE0D504FA#32, ⟨0xE0#8, 0xD5#8, 0x04#8, 0xFA#8⟩)],
      p.1 = frameWord p.2.b0 p.2.b1 p.2.b2 p.2.b3 := by decide

theorem witness_OnCommandResult :
    (∃ s : State, s.err = .rotationFault) ∧
    (∃ s : State, s.err = .none ∧ s.dir ≠ .down ∧ s.pos < s.cfg.downBound) ∧
    (∃ s : State, s.err ≠ .rotationFault ∧ s.dir ≠ .down ∧ s.err = .endSwitchFault) ∧
    (∃ s : State, s.err ≠ .rotationFault ∧ s.dir ≠ .down ∧ s.cfg.downBound ≤ s.pos) ∧
    (∃ s : State, s.err ≠ .rotationFault ∧ s.dir = .down) :=
  ⟨⟨{ ready with err := .rotationFault }, by decide⟩, ⟨{ raising with pos := 257 }, by decide⟩,
   ⟨{ ready with err := .endSwitchFault }, by decide⟩, ⟨{ ready with pos := 258 }, by decide⟩,
   ⟨lowering, by decide⟩⟩

theorem witness_OffCommandResult :
    (∃ s : State, s.err = .none ∧ s.dir ≠ .up ∧ s.cfg.upBound < s.pos ∧ s.endSwitchN = true) ∧
    (∃ s : State, s.dir ≠ .up ∧ s.err ≠ .none) ∧ (∃ s : State, s.dir ≠ .up ∧ s.pos ≤ s.cfg.upBound) ∧
    (∃ s : State, s.dir ≠ .up ∧ s.endSwitchN = false) ∧ (∃ s : State, s.dir = .up) :=
  ⟨⟨{ lowering with pos := -3 }, by decide⟩, ⟨{ ready with err := .rotationFault }, by decide⟩,
   ⟨{ ready with pos := -4 }, by decide⟩, ⟨{ ready with endSwitchN := false }, by decide⟩, ⟨raising, by decide⟩⟩

theorem witness_UpAndDownCommandResult :
    (∃ s : State, s.monoActive = false ∧ s.dir = .neutral) ∧
    (∃ s : State, s.monoActive = false ∧ s.dir ≠ .neutral) ∧
    (∃ s : State, s.monoActive = true ∧ s.err = .none ∧ s.dir ≠ .up ∧ s.cfg.upBound < s.pos ∧
      s.endSwitchN = true) ∧
    (∃ s : State, s.monoActive = true ∧ s.err = .none ∧ s.dir ≠ .down ∧ s.pos < s.cfg.downBound) ∧
    (∃ s : State, s.monoActive = true ∧ s.dir = .up) :=
  ⟨⟨ready, by decide⟩, ⟨lowering, by decide⟩, ⟨{ lowering with monoActive := true }, by decide⟩,
   ⟨{ raising with monoActive := true }, by decide⟩, ⟨{ raising with monoActive := true }, by decide⟩⟩

theorem witness_SetAndUnknownCommandResult :
    (∃ (s : State) (i : Instr), (∃ w, i = .irUnknown w) ∧ s.dir ≠ .neutral) ∧
    (∃ (s : State) (i : Instr), i = .dispatch .unknown ∧ s.dir = .neutral) ∧ (∃ i : Instr, i = .irSet) :=
  ⟨⟨raising, .irUnknown 0#32, ⟨0#32, rfl⟩, by decide⟩, ⟨ready, .dispatch .unknown, by decide⟩, ⟨.irSet, rfl⟩⟩

theorem witness_ComparatorEdgeResult :
    (∃ (s : State) (level : Bool), level = s.lastLevel) ∧
    (∃ (s : State) (level : Bool), level ≠ s.lastLevel ∧ s.dir = .neutral) ∧
    (∃ (s : State) (level : Bool), level ≠ s.lastLevel ∧ s.dir = .down ∧ posInRange s.cfg (s.pos + 1) = true) ∧
    (∃ (s : State) (level : Bool), level ≠ s.lastLevel ∧ s.dir = .up ∧ posInRange s.cfg (s.pos - 1) = true) :=
  ⟨⟨lowering, false, by decide⟩, ⟨ready, true, by decide⟩, ⟨{ lowering with pos := 32766 }, true, by decide⟩,
   ⟨{ raising with lastLevel := true }, false, by decide⟩⟩

theorem witness_IdleIterationResult : ∃ s : State, s.irLine = true ∧ s.dir = .neutral := ⟨ready, by decide⟩

theorem witness_HomingIterationStopsWithoutFault :
    ∃ s : State, s.irLine = true ∧ s.dir = .up ∧ s.err = .none ∧ s.cfg.upBound < 0 ∧ s.endSwitchN = false ∧
      (switchSampled s).endSwitchN = false ∧
      (s.tick - s.ltt).toNat ≤ s.cfg.stallMs * s.cfg.tickHzNum / (1000 * s.cfg.tickHzDen) :=
  ⟨{ raising with pos := -4, endSwitchN := false, tick := 1000#16 }, by decide⟩

theorem witness_NoisePulseStopsTheScreen :
    ∃ s : State, s.irLine = false ∧ s.irNext = [true] ∧ s.endSwitchN = true ∧ s.err = .none ∧ s.dir ≠ .neutral :=
  ⟨{ lowering with irLine := false, irNext := [true] }, by decide⟩

theorem witness_PressOnLowersTheScreen :
    ∃ s : State, s.cfg.irPrefix0 = 0xE0#8 ∧ s.cfg.irPrefix1 = 0xD5#8 ∧
      s.cfg.buttonTable = Config.sourceButtonTable ∧ irTBit s.cfg < irTEof s.cfg ∧ s.irLine = false ∧
      s.irNext = waveSamples (frameDurations s.cfg 0xE0D504FB#32) ∧ s.dir = .neutral ∧ s.err = .none ∧
      s.pos < s.cfg.downBound ∧ s.endSwitchN = true :=
  ⟨receiving (frameDurations shortConfig 0xE0D504FB#32), by decide, by decide, by decide, by decide, by decide,
   rfl, by decide, by decide, by decide, by decide⟩

theorem witness_LedValueResult :
    (∃ s : State, s.err = .rotationFault) ∧ (∃ s : State, s.err = .endSwitchFault) ∧ (∃ s : State, s.err = .none) :=
  ⟨⟨{ ready with err := .rotationFault }, by decide⟩, ⟨{ ready with err := .endSwitchFault }, by decide⟩,
   ⟨ready, by decide⟩⟩

theorem witness_LinesRunAloneAreTheOperation :
    ∃ (i : Instr) (l : Line), entryLine i = some l ∧ i ≠ .irReadFrame ∧ i ≠ .loopIteration :=
  ⟨.checkStopConditions, .k1, by decide⟩

theorem witness_LoopLinesRunAloneAreTheIteration :
    ∃ s t : State, s.fgAt = .c1 ∧ s.callStack = [] ∧ exec .loopIteration s = .next t ∧ t.fgAt = .c1 :=
  ⟨lowering, _, by decide, by decide, rfl, by decide⟩

theorem witness_TimerCommutesWithLinesThatReadNoClock : ∃ s : State, readsClock s.fgAt = false :=
  ⟨{ lowering with fgAt := .k1a }, by decide⟩

theorem witness_HandlerCommutesWithLinesThatShareNothing : ∃ s : State, touchesShared s.fgAt = false :=
  ⟨{ lowering with fgAt := .a2 .down }, by decide⟩

/-- An interrupt between the lines A1 and A2 of a reversal, where the pins do not yet encode the direction. -/
theorem witness_EveryStepKeepsTheMotorInvariant :
    ∃ s t : State, lineOk (motorView s) s.fgAt = true ∧ stackOk s.callStack s.fgAt = true ∧ step s = .next t :=
  ⟨{ raising with fgAt := .a2 .down, motorUp := false, callStack := [.line .m1],
                  stimuli := [.move (.compEdge true)] }, _, by decide, by decide, rfl⟩

theorem witness_InvariantsHoldAtReset : ∃ cfg : Config, configOk cfg = true := ⟨Config.reference, by decide⟩

theorem witness_MotorInvariantExcludesBothPins :
    ∃ s : State, lineOk (motorView s) s.fgAt = true ∧ stackOk s.callStack s.fgAt = true ∧
      isLoopLine s.fgAt = true ∧ s.err ≠ .none :=
  ⟨{ ready with err := .rotationFault }, by decide⟩

theorem witness_EveryStepKeepsTheRanges :
    ∃ s t : State, posInRange s.cfg s.pos = true ∧ (frameOf s).nbits ≤ 32 ∧ step s = .next t :=
  ⟨{ lowering with fgAt := .i4, callStack := [.c2], ir := some ⟨⟨0#8, 0#8, 0#8, 0#8⟩, 32, 1⟩,
                   stimuli := [.move .foreground] }, _, by decide, by decide, rfl⟩

/-- `go_home` run alone in the permanent fault state (GH1). -/
theorem witness_EndSwitchFaultIsPermanent :
    ∃ s t : State, lineOk (motorView s) s.fgAt = true ∧ stackOk s.callStack s.fgAt = true ∧
      s.err = .endSwitchFault ∧ step s = .next t ∧ (∀ rest, s.stimuli ≠ .move .reset :: rest) ∧
      (s.stimuli = [] → Config.freeMove s.draws ≠ .reset) ∧
      (∀ l more rest, s.stimuli ≠ .iter ((l, .reset) :: more) :: rest ∧
        s.stimuli ≠ .iterating ((l, .reset) :: more) :: rest) ∧
      (∀ k bytes rest, s.stimuli = .code bytes :: rest → decode bytes ≠ .ok (.enterError k)) := by
  refine ⟨{ ready with err := .endSwitchFault, pos := -4, stimuli := [.code [0x28#8]] }, _, by decide, by decide,
    by decide, rfl, fun rest h => ?_, fun h => ?_, fun l more rest => ⟨fun h => ?_, fun h => ?_⟩,
    fun k bytes rest h => ?_⟩
  · cases h
  · cases h
  · cases h
  · cases h
  · cases h; cases k <;> decide

theorem witness_ConfigurationIsNeverWritten : ∃ s t : State, step s = .next t :=
  ⟨scripted [.code [0xA8#8]], _, rfl⟩

end Sys2Proof.Tests
end

section
namespace Sys2Proof.Machine

/-! ## `decode_button` with the source's prefix and table (R58, R59, R107)

The prefix test and the test of a table row together compare the whole frame word, so `decode_button` is one lookup by
word; with the source's values the words looked up are the five known frames. -/

theorem bitVec_append_inj {m n : Nat} {x x' : BitVec m} {y y' : BitVec n} :
    x ++ y = x' ++ y' ↔ x = x' ∧ y = y' := by
  refine ⟨fun h => ⟨?_, ?_⟩, fun ⟨hx, hy⟩ => hx ▸ hy ▸ rfl⟩
  · simpa only [BitVec.extractLsb'_append_eq_left] using congrArg (BitVec.extractLsb' n m) h
  · simpa only [BitVec.extractLsb'_append_eq_right] using congrArg (BitVec.extractLsb' 0 n) h

theorem frameWord_inj {a0 a1 a2 a3 b0 b1 b2 b3 : Byte} :
    frameWord a0 a1 a2 a3 = frameWord b0 b1 b2 b3 ↔ a0 = b0 ∧ a1 = b1 ∧ a2 = b2 ∧ a3 = b3 :=
  bitVec_append_inj.trans (by simp only [bitVec_append_inj, and_assoc])

/-- The word of the frame a row of the table stands for, with the configuration's prefix (R57, R59). -/
def rowWord (cfg : Config) (r : ButtonRow) : FrameWord :=
  frameWord cfg.irPrefix0 cfg.irPrefix1 r.upper r.lower

theorem frameWord_eq_rowWord (cfg : Config) (buf : FrameBuf) (r : ButtonRow) :
    frameWord buf.b0 buf.b1 buf.b2 buf.b3 = rowWord cfg r ↔
      (buf.b0 = cfg.irPrefix0 ∧ buf.b1 = cfg.irPrefix1) ∧ r.upper = buf.b2 ∧ r.lower = buf.b3 := by
  rw [rowWord, frameWord_inj, and_assoc, eq_comm (a := buf.b2), eq_comm (a := buf.b3)]

/-- The button of the first of `rows` whose word is `w`, Unknown where none has it. -/
def lookupWord (cfg : Config) (w : FrameWord) (rows : List ButtonRow) : Button :=
  ((rows.find? fun r => w = rowWord cfg r).map ButtonRow.button).getD .unknown

@[simp] theorem lookupWord_nil (cfg : Config) (w : FrameWord) : lookupWord cfg w [] = .unknown := rfl

@[simp] theorem lookupWord_cons (cfg : Config) (w : FrameWord) (r : ButtonRow) (rows : List ButtonRow) :
    lookupWord cfg w (r :: rows) = if w = rowWord cfg r then r.button else lookupWord cfg w rows := by
  by_cases h : w = rowWord cfg r <;> simp [lookupWord, h]

/-- R107: whatever the prefix and the table, `decode_button` is the lookup of the whole frame word. -/
theorem decodeButton_eq_lookupWord (cfg : Config) (buf : FrameBuf) :
    decodeButton cfg buf = lookupWord cfg (frameWord buf.b0 buf.b1 buf.b2 buf.b3) cfg.buttonTable := by
  simp only [decodeButton, lookupWord, frameWord_eq_rowWord, Bool.decide_and]
  by_cases hp : buf.b0 = cfg.irPrefix0 ∧ buf.b1 = cfg.irPrefix1
  · simp only [hp, and_self, if_true, decide_true, Bool.true_and]
    cases List.find? _ cfg.buttonTable <;> rfl
  · rw [if_neg hp, List.find?_eq_none.2 fun r _ => by simp [hp], Option.map_none, Option.getD_none]

/-- R59: with the source's prefix and table, the five words looked up are the known frames. -/
theorem lookupWord_sourceButtonTable {cfg : Config} (w : FrameWord) (h0 : cfg.irPrefix0 = 0xE0#8)
    (h1 : cfg.irPrefix1 = 0xD5#8) :
    lookupWord cfg w Config.sourceButtonTable =
      if w = 0xE0D504FB#32 then .on
      else if w = 0xE0D544BB#32 then .off
      else if w = 0xE0D506F9#32 then .up
      else if w = 0xE0D526D9#32 then .down
      else if w = 0xE0D550AF#32 then .set
      else .unknown := by
  simp only [Config.sourceButtonTable, lookupWord_cons, lookupWord_nil, rowWord, h0, h1]
  rfl

theorem exec_decodeButton (s : State) :
    exec .decodeButton s = .next { s with ret := .button (decodeButton s.cfg s.argBuf) } := rfl

/-- Settles O39: `decode_button` is the lookup of the frame word, and the source's table holds the five known frames. -/
theorem decodeButtonResult : Obligations.DecodeButtonResult := by
  intro s w h0 h1 ht hw
  rw [exec_decodeButton, decodeButton_eq_lookupWord, ← hw, ht, lookupWord_sourceButtonTable w h0 h1]

end Sys2Proof.Machine
end

section
namespace Sys2Proof.Machine
open Safety

/-! ## `error`, `is_active` and the down stop condition (R82, R90, R96) -/

theorem exec_error (s : State) : exec .error s = .next { s with ret := .err s.err } := rfl

theorem exec_isActive (s : State) : exec .isActive s = .next { s with ret := .bool s.monoActive } := rfl

/-- Settles O28: each accessor returns its cell, and `ret` is all that changes. -/
theorem accessorResults : Obligations.AccessorResults :=
  fun s => ⟨exec_error s, exec_isActive s⟩

theorem exec_downStopCondition (s : State) :
    exec .downStopCondition s = .next { s with ret := .bool (downStopCondition s) } := rfl

theorem errorPresent_eq_decide (s : State) : errorPresent s = decide (s.err ≠ .none) := by
  rw [decide_not]; rfl

theorem downStopCondition_eq_errorPresent_or (s : State) :
    downStopCondition s = (errorPresent s || decide (s.cfg.downBound ≤ s.pos)) := rfl

/-- Settles O19: the operation returns the error test or the bound test, and `ret` is all that changes. -/
theorem downStopConditionResult : Obligations.DownStopConditionResult := by
  intro s
  rw [exec_downStopCondition, downStopCondition_eq_errorPresent_or, errorPresent_eq_decide]

/-! ## `set_direction` (R83, R84) -/

theorem exec_setDirection (d : Direction) (s : State) :
    exec (.setDirection d) s = .next { setDirection d s with ret := .unit } := rfl

/-- R84: a request for the present direction is answered before any condition is evaluated. -/
theorem setDirection_of_dir_eq {d : Direction} {s : State} (h : s.dir = d) : setDirection d s = s :=
  if_pos h

/-- R83: a refused Up has sampled the switch, and no more. -/
theorem setDirection_up_of_stop {s : State} (hd : s.dir ≠ .up) (hc : (upStopCondition s).1 = true) :
    setDirection .up s = switchSampled s := by
  simp [setDirection, hd, hc, readEngaged_snd_eq]

/-- R83: an admitted Up is applied after the sample of the switch. -/
theorem setDirection_up_of_clear {s : State} (hd : s.dir ≠ .up) (hc : (upStopCondition s).1 = false) :
    setDirection .up s = applyDirection .up (switchSampled s) := by
  simp [setDirection, hd, hc, readEngaged_snd_eq]

/-- Settles O22: the present direction is tested first, and the request ends there. -/
theorem setDirectionIsIdempotent : Obligations.SetDirectionIsIdempotent := by
  intro s d h
  rw [exec_setDirection, setDirection_of_dir_eq h]

/-! ## `go_home` (R86) -/

theorem exec_goHome (s : State) : exec .goHome s = returnsUnit (goHome s) := rfl

theorem leaveFault_of_permanent {s : State} (h : s.err = .endSwitchFault) : leaveFault s = none :=
  if_pos h

theorem leaveFault_of_not_permanent {s : State} (h : s.err ≠ .endSwitchFault) :
    leaveFault s = some { s with err := .none } :=
  if_neg h

theorem goHome_of_permanent {s : State} (h : s.err = .endSwitchFault) : goHome s = .next s := by
  simp only [goHome, leaveFault_of_permanent h]

/-- The state in which `go_home` requests Up: the error cleared, the switch sampled once, `pos` at the worst case. -/
def homingRequest (s : State) : State :=
  { switchSampled s with err := .none, pos := s.cfg.downBound }

theorem homingRequest_dir (s : State) : (homingRequest s).dir = s.dir := rfl

theorem goHome_of_engaged {s : State} (he : s.err ≠ .endSwitchFault) (hsw : s.endSwitchN = false) :
    goHome s = .next { switchSampled s with err := .none } := by
  simp [goHome, leaveFault_of_not_permanent he, hsw, readEngaged_snd_eq, switchSampled]

theorem goHome_of_released {s : State} (he : s.err ≠ .endSwitchFault) (hsw : s.endSwitchN = true)
    (hr : posInRange s.cfg s.cfg.downBound = true) :
    goHome s = .next (setDirection .up (homingRequest s)) := by
  simp [goHome, leaveFault_of_not_permanent he, hsw, readEngaged_snd_eq, writePos_in_range, hr,
    homingRequest, switchSampled]

/-- At the homing request no error is left and `pos` is the down bound: what can still stop it is the up bound
or the second sample of the switch (R81). -/
theorem upStopCondition_homingRequest (s : State) :
    (upStopCondition (homingRequest s)).1 =
      (decide (s.cfg.downBound ≤ s.cfg.upBound) || !(switchSampled s).endSwitchN) := by
  rw [upStopCondition_fst]; rfl

/-- Settles O23: `go_home` stops at G1 or G3, or ends as the request for Up in `homingRequest` does. -/
theorem goHomeResult : Obligations.GoHomeResult := by
  intro s
  refine ⟨fun he => ?_, fun he hsw => ?_, fun he hsw hr hd hsw2 hb => ?_, fun he hsw hr hd hsw2 => ?_,
    fun he hsw hr hd => ?_⟩ <;> rw [exec_goHome]
  · rw [goHome_of_permanent he, returnsUnit_next]
  · rw [goHome_of_engaged he hsw, returnsUnit_next]
  · have hc : (upStopCondition (homingRequest s)).1 = false := by
      simp [upStopCondition_homingRequest, hsw2, hb]
    rw [← homingRequest_dir] at hd
    rw [goHome_of_released he hsw hr, setDirection_up_of_clear hd hc, applyDirection_up]
    rfl
  · have hc : (upStopCondition (homingRequest s)).1 = true := by
      simp [upStopCondition_homingRequest, hsw2]
    rw [← homingRequest_dir] at hd
    rw [goHome_of_released he hsw hr, setDirection_up_of_stop hd hc]
    rfl
  · rw [← homingRequest_dir] at hd
    rw [goHome_of_released he hsw hr, setDirection_of_dir_eq hd]
    rfl

end Sys2Proof.Machine
end

section
namespace Sys2Proof.Machine
open Safety

/-! ## What a request of `set_direction` ends in (R81, R82, R83)

Each lemma says a request's whole effect under one answer of the stop condition. -/

theorem downStopCondition_eq_true_iff (s : State) :
    downStopCondition s = true ↔ s.err ≠ .none ∨ s.cfg.downBound ≤ s.pos := by
  rw [downStopCondition_eq_errorPresent_or, errorPresent_eq_decide, Bool.or_eq_true, decide_eq_true_eq,
    decide_eq_true_eq]

theorem downStopCondition_eq_false {s : State} (he : s.err = .none) (hp : s.pos < s.cfg.downBound) :
    downStopCondition s = false :=
  Bool.eq_false_iff.2 fun h => ((downStopCondition_eq_true_iff s).1 h).elim (· he) (Int.not_le.2 hp)

theorem upStopCondition_fst_eq_true_iff (s : State) :
    (upStopCondition s).1 = true ↔ s.err ≠ .none ∨ s.pos ≤ s.cfg.upBound ∨ s.endSwitchN = false := by
  rw [upStopCondition_fst, Bool.or_eq_true, Bool.or_eq_true, bne_iff_ne, decide_eq_true_eq, Bool.not_eq_true',
    or_assoc]

theorem upStopCondition_fst_eq_false {s : State} (he : s.err = .none) (hp : s.cfg.upBound < s.pos)
    (hsw : s.endSwitchN = true) : (upStopCondition s).1 = false := by
  rw [Bool.eq_false_iff, Ne, upStopCondition_fst_eq_true_iff]
  rintro (h | h | h)
  · exact h he
  · exact Int.not_le.2 hp h
  · rw [hsw] at h; cases h

/-- R83: a refused Down changes nothing, and neither does one the screen is in already. -/
theorem setDirection_down_of_stop {s : State} (hc : downStopCondition s = true) : setDirection .down s = s := by
  simp [setDirection, hc]

theorem setDirection_down_of_clear {s : State} (hd : s.dir ≠ .down) (hc : downStopCondition s = false) :
    setDirection .down s = applyDirection .down s := by
  simp [setDirection, hd, hc]

/-- R83, R84: Neutral is never refused; in Neutral already, no pin is written. -/
theorem setDirection_neutral (s : State) :
    setDirection .neutral s = { s with
      dir := .neutral,
      motorUp := (if s.dir = .neutral then s.motorUp else false),
      motorDown := (if s.dir = .neutral then s.motorDown else false) } := by
  by_cases hd : s.dir = .neutral
  · rw [setDirection_of_dir_eq hd, if_pos hd, if_pos hd, ← hd]
  · rw [if_neg hd, if_neg hd]
    exact if_neg hd

/-! ## The Dispatcher's commands (R111 to R115) -/

/-- The button a command stands for: an IR32 code's own (R59), or the argument of `dispatch` (R66). -/
def pressedButton : Instr → Option Button
  | .irOn => some .on
  | .irOff => some .off
  | .irUp => some .up
  | .irDown => some .down
  | .irSet => some .set
  | .irUnknown _ => some .unknown
  | .dispatch b => some b
  | _ => none

/-- R111: an IR32 code and the `dispatch` of its button are the same operation. -/
theorem exec_of_pressedButton {i : Instr} {b : Button} (h : pressedButton i = some b) (s : State) :
    exec i s = returnsUnit (dispatch b s) := by
  cases i with
  | irOn | irOff | irUp | irDown | irSet | irUnknown | dispatch => cases h; rfl
  | _ => cases h

theorem exec_on {i : Instr} (hi : i = .irOn ∨ i = .dispatch .on) (s : State) :
    exec i s = returnsUnit (commandOn s) :=
  exec_of_pressedButton (b := .on) (by rcases hi with rfl | rfl <;> rfl) s

theorem exec_off {i : Instr} (hi : i = .irOff ∨ i = .dispatch .off) (s : State) :
    exec i s = returnsUnit (commandOff s) :=
  exec_of_pressedButton (b := .off) (by rcases hi with rfl | rfl <;> rfl) s

theorem exec_up {i : Instr} (hi : i = .irUp ∨ i = .dispatch .up) (s : State) :
    exec i s = returnsUnit (commandUp s) :=
  exec_of_pressedButton (b := .up) (by rcases hi with rfl | rfl <;> rfl) s

theorem exec_down {i : Instr} (hi : i = .irDown ∨ i = .dispatch .down) (s : State) :
    exec i s = returnsUnit (commandDown s) :=
  exec_of_pressedButton (b := .down) (by rcases hi with rfl | rfl <;> rfl) s

theorem commandOn_of_rotationFault {s : State} (h : s.err = .rotationFault) : commandOn s = goHome s :=
  if_pos h

theorem commandOn_of_no_rotationFault {s : State} (h : s.err ≠ .rotationFault) :
    commandOn s = .next (trigger (setDirection .down s)) :=
  if_neg h

theorem commandOff_eq (s : State) : commandOff s = .next (trigger (setDirection .up s)) := rfl

theorem commandUp_of_active {s : State} (h : s.monoActive = true) : commandUp s = .next (setDirection .up s) :=
  congrArg _ (if_pos h)

theorem commandUp_of_closed {s : State} (h : s.monoActive = false) :
    commandUp s = .next (setDirection .neutral s) :=
  congrArg _ (if_neg (Bool.eq_false_iff.1 h))

theorem commandDown_of_active {s : State} (h : s.monoActive = true) :
    commandDown s = .next (setDirection .down s) :=
  congrArg _ (if_pos h)

/-- R115: outside the window Down is the same command as Up. -/
theorem commandDown_of_closed {s : State} (h : s.monoActive = false) : commandDown s = commandUp s :=
  (congrArg _ (if_neg (Bool.eq_false_iff.1 h))).trans (commandUp_of_closed h).symm

/-- R112: On outside a RotationFault is the request for Down, and then the window. -/
theorem exec_on_of_no_rotationFault {i : Instr} (hi : i = .irOn ∨ i = .dispatch .on) {s : State}
    (he : s.err ≠ .rotationFault) :
    exec i s = .next { setDirection .down s with
      monoTrig := (setDirection .down s).tick, monoActive := true, ret := .unit } := by
  rw [exec_on hi, commandOn_of_no_rotationFault he, trigger_eq, returnsUnit_next]

/-- R113: Off is the request for Up, and then the window, whatever the error. -/
theorem exec_off_eq {i : Instr} (hi : i = .irOff ∨ i = .dispatch .off) (s : State) :
    exec i s = .next { setDirection .up s with
      monoTrig := (setDirection .up s).tick, monoActive := true, ret := .unit } := by
  rw [exec_off hi, commandOff_eq, trigger_eq, returnsUnit_next]

/-- R114: inside the window Up is the request for Up. -/
theorem exec_up_of_active {i : Instr} (hi : i = .irUp ∨ i = .dispatch .up) {s : State}
    (ha : s.monoActive = true) : exec i s = exec (.setDirection .up) s := by
  rw [exec_up hi, commandUp_of_active ha, returnsUnit_next, exec_setDirection]

/-- R115: inside the window Down is the request for Down. -/
theorem exec_down_of_active {i : Instr} (hi : i = .irDown ∨ i = .dispatch .down) {s : State}
    (ha : s.monoActive = true) : exec i s = exec (.setDirection .down) s := by
  rw [exec_down hi, commandDown_of_active ha, returnsUnit_next, exec_setDirection]

/-- R114, R115: outside the window Up and Down are the request for Neutral. -/
theorem exec_up_or_down_of_closed {i : Instr}
    (hi : i = .irUp ∨ i = .dispatch .up ∨ i = .irDown ∨ i = .dispatch .down) {s : State}
    (ha : s.monoActive = false) : exec i s = exec (.setDirection .neutral) s := by
  have hc : exec i s = returnsUnit (commandUp s) := by
    rcases or_assoc.2 hi with hi | hi
    · exact exec_up hi s
    · rw [exec_down hi, commandDown_of_closed ha]
  rw [hc, commandUp_of_closed ha, returnsUnit_next, exec_setDirection]

/-- Settles O40: outside a RotationFault On is the request for Down, admitted or without effect, and then the window. -/
theorem onCommandResult : Obligations.OnCommandResult := by
  intro s i hi
  refine ⟨fun he => ?_, fun he hd hp => ?_, fun he _ hstop => ?_, fun he hd => ?_⟩
  · rw [exec_on hi, commandOn_of_rotationFault he, exec_goHome]
  · have hr : s.err ≠ .rotationFault := by rw [he]; decide
    rw [exec_on_of_no_rotationFault hi hr,
      setDirection_down_of_clear hd (downStopCondition_eq_false he hp), applyDirection_down]
  · have hc : s.err ≠ .none ∨ s.cfg.downBound ≤ s.pos := hstop.imp_left fun h => by rw [h]; decide
    rw [exec_on_of_no_rotationFault hi he, setDirection_down_of_stop ((downStopCondition_eq_true_iff s).2 hc)]
  · rw [exec_on_of_no_rotationFault hi he, setDirection_of_dir_eq hd]

/-- Settles O41: Off is the request for Up, admitted, refused or without effect, and then the window. -/
theorem offCommandResult : Obligations.OffCommandResult := by
  intro s i hi
  rw [exec_off_eq hi]
  refine ⟨fun he hd hp hsw => ?_, fun hd hstop => ?_, fun hd => ?_⟩
  · rw [setDirection_up_of_clear hd (upStopCondition_fst_eq_false he hp hsw), applyDirection_up]
    rfl
  · rw [setDirection_up_of_stop hd ((upStopCondition_fst_eq_true_iff s).2 hstop)]
    rfl
  · rw [setDirection_of_dir_eq hd]

/-- Settles O42: each of the two is a `set_direction`, of its own direction inside the window and of Neutral
outside it. -/
theorem upAndDownCommandResult : Obligations.UpAndDownCommandResult := by
  intro s i
  refine ⟨fun hi ha => ?_, fun hi ha he hd hp hsw => ?_, fun hi ha => exec_up_of_active hi ha,
    fun hi ha he hd hp => ?_, fun hi ha => exec_down_of_active hi ha⟩
  · rw [exec_up_or_down_of_closed hi ha, exec_setDirection, setDirection_neutral]
  · rw [exec_up_of_active hi ha, exec_setDirection,
      setDirection_up_of_clear hd (upStopCondition_fst_eq_false he hp hsw), applyDirection_up]
    rfl
  · rw [exec_down_of_active hi ha, exec_setDirection,
      setDirection_down_of_clear hd (downStopCondition_eq_false he hp), applyDirection_down]

end Sys2Proof.Machine
end

section
namespace Sys2Proof

/-! ## Codes and operations (R57, R59, R60, R64 to R66, R69)

A byte is its index and argument field, a frame is its word, and every argument field is the code of the value it
selects: so decoding and encoding undo each other, field by field. -/

/-- R57: the four bytes of a frame are its word. -/
theorem frameWord_frameBytes (w : FrameWord) :
    frameWord (w.extractLsb' 24 8) (w.extractLsb' 16 8) (w.extractLsb' 8 8) (w.extractLsb' 0 8) = w := by
  have h3 : w.extractLsb' 24 8 ++ w.extractLsb' 16 8 = w.extractLsb' 16 16 :=
    BitVec.extractLsb'_append_extractLsb'_eq_extractLsb' (by decide)
  have h2 : w.extractLsb' 16 16 ++ w.extractLsb' 8 8 = w.extractLsb' 8 24 :=
    BitVec.extractLsb'_append_extractLsb'_eq_extractLsb' (by decide)
  have h1 : w.extractLsb' 8 24 ++ w.extractLsb' 0 8 = w.extractLsb' 0 32 :=
    BitVec.extractLsb'_append_extractLsb'_eq_extractLsb' (by decide)
  have h : w.extractLsb' 0 32 = w := BitVec.extractLsb'_eq_self
  exact (congrArg (· ++ _) (congrArg (· ++ _) h3 |>.trans h2)).trans (h1.trans h)

/-- R57: the bytes of a frame's word are the frame. -/
theorem frameBytes_frameWord (b0 b1 b2 b3 : Byte) : frameBytes (frameWord b0 b1 b2 b3) = [b0, b1, b2, b3] := by
  obtain ⟨h0, h1, h2, h3⟩ := Machine.frameWord_inj.1 (frameWord_frameBytes (frameWord b0 b1 b2 b3))
  rw [frameBytes, h0, h1, h2, h3]

/-- R60: a word outside the known frames is an Unknown command. -/
theorem decodeFrameWord_of_unknown {w : FrameWord} (h : w ∉ knownFrames) :
    decodeFrameWord w = .irUnknown w := by
  simp only [knownFrames, List.mem_cons, List.not_mem_nil, or_false, not_or] at h
  obtain ⟨h0, h1, h2, h3, h4⟩ := h
  simp only [decodeFrameWord, h0, h1, h2, h3, h4, if_false]

theorem wellFormed_irUnknown (w : FrameWord) : (Instr.irUnknown w).wellFormed = true ↔ w ∉ knownFrames := by
  simp [Instr.wellFormed]

/-- R59, R60: the operation of a word has that word's bytes, and Unknown is the operation of the other words. -/
theorem encode_decodeFrameWord (w : FrameWord) :
    encode (decodeFrameWord w) = frameBytes w ∧ (decodeFrameWord w).wellFormed = true := by
  by_cases h : w ∈ knownFrames
  · simp only [knownFrames, List.mem_cons, List.not_mem_nil, or_false] at h
    rcases h with rfl | rfl | rfl | rfl | rfl <;> decide
  · rw [decodeFrameWord_of_unknown h]
    exact ⟨rfl, (wellFormed_irUnknown w).2 h⟩

/-- R69: a byte is its index and its argument field. -/
theorem op8_fields (b : Byte) : op8 (op8Index b) (op8Arg b) = [b] := by
  have h : b.extractLsb' 3 5 ++ b.extractLsb' 0 3 = b.extractLsb' 0 8 :=
    BitVec.extractLsb'_append_extractLsb'_eq_extractLsb' (by decide)
  rw [op8, op8Index, op8Arg, BitVec.ofNat_toNat, BitVec.ofNat_toNat, BitVec.setWidth_eq, BitVec.setWidth_eq, h,
      BitVec.extractLsb'_eq_self]

theorem directionCode_of_code {n : Nat} {d : Direction} (h : directionOfCode n = some d) : directionCode d = n := by
  unfold directionOfCode at h
  split at h <;> cases h <;> rfl

theorem faultCode_of_code {n : Nat} {k : FaultKind} (h : faultOfCode n = some k) : faultCode k = n := by
  unfold faultOfCode at h
  split at h <;> cases h <;> rfl

theorem buttonCode_of_code {n : Nat} {b : Button} (h : buttonOfCode n = some b) : buttonCode b = n := by
  unfold buttonOfCode at h
  split at h <;> cases h <;> rfl

theorem levelCode_of_code {n : Nat} {l : Bool} (h : levelOfCode n = some l) : (if l then 1 else 0) = n := by
  unfold levelOfCode at h
  split at h <;> cases h <;> rfl

theorem noArg_of_code {n : Nat} {u : Unit} (h : noArgOfCode n = some u) : 0 = n := by
  unfold noArgOfCode at h
  split at h <;> cases h; rfl

/-- An argument field that selects an operation is the operation's own code, where the field's codes are those of
its values. -/
theorem encode_of_withArg {α : Type} {index arg : Nat} {field : Nat → Option α} {op : α → Instr} {code : α → Nat}
    {i : Instr} (h : withArg index arg field op = .ok i) (hcode : ∀ {n a}, field n = some a → code a = n)
    (hop : ∀ a, encode (op a) = op8 index (code a) ∧ (op a).wellFormed = true) :
    encode i = op8 index arg ∧ i.wellFormed = true := by
  unfold withArg at h
  split at h
  · rename_i a ha
    cases h
    rw [← hcode ha]
    exact hop a
  · cases h

/-- R69: an OP8 byte that decodes is the code of its operation. -/
theorem encode_of_decodeOp8 {b : Byte} {i : Instr} (h : decodeOp8 b = .ok i) :
    encode i = [b] ∧ i.wellFormed = true := by
  rw [← op8_fields b]
  generalize hn : op8Index b = n
  unfold decodeOp8 at h
  rw [hn] at h
  split at h
  case h_5 => exact encode_of_withArg h directionCode_of_code fun _ => ⟨rfl, rfl⟩
  case h_13 => exact encode_of_withArg h faultCode_of_code fun _ => ⟨rfl, rfl⟩
  case h_20 => exact encode_of_withArg h buttonCode_of_code fun _ => ⟨rfl, rfl⟩
  case h_21 => exact encode_of_withArg h levelCode_of_code fun _ => ⟨rfl, rfl⟩
  case h_24 => cases h
  all_goals exact encode_of_withArg (code := fun _ => 0) h noArg_of_code fun _ => ⟨rfl, rfl⟩

/-- Settles O2: an OP8 code is read back value by value, a frame by its word. -/
theorem decodeOfEncodeIsTheOperation : Obligations.DecodeOfEncodeIsTheOperation := by
  intro i hw
  cases i with
  | irUnknown w =>
    have h := decodeFrameWord_of_unknown ((wellFormed_irUnknown w).1 hw)
    exact congrArg Except.ok ((congrArg _ (frameWord_frameBytes w)).trans h)
  | setDirection d => cases d <;> rfl
  | enterError k => cases k <;> rfl
  | dispatch b => cases b <;> rfl
  | onComparatorEdge level => cases level <;> rfl
  | _ => rfl

/-- Settles O3: one byte is an OP8 code, four are a frame, and no other length decodes. -/
theorem encodeOfDecodeIsTheBytes : Obligations.EncodeOfDecodeIsTheBytes := by
  intro bs i h
  unfold decode at h
  split at h
  · exact encode_of_decodeOp8 h
  · cases h
    exact frameBytes_frameWord _ _ _ _ ▸ encode_decodeFrameWord _
  · cases h

/-- Settles O1: each code is evaluated. -/
theorem writtenOutCodesDecode : Obligations.WrittenOutCodesDecode := by
  unfold Obligations.WrittenOutCodesDecode
  decide

/-- Settles O7: a byte that decodes is the code of an operation, and no operation has such a code. -/
theorem unnamedCodesAreRefused : Obligations.UnnamedCodesAreRefused := by
  intro s b rest hc hs hb
  have hd : decode [b] = decodeOp8 b := rfl
  cases h : decodeOp8 b with
  | error e => exact ⟨e, by simp [Machine.step, hc, hs, hd, h]⟩
  | ok i =>
    exfalso
    have he := (encode_of_decodeOp8 h).1
    cases i with
    | irOn | irOff | irUp | irDown | irSet | irUnknown => cases he
    | setDirection d => cases d <;> cases he <;> revert hb <;> decide
    | enterError k => cases k <;> cases he <;> revert hb <;> decide
    | dispatch a => cases a <;> cases he <;> revert hb <;> decide
    | onComparatorEdge l => cases l <;> cases he <;> revert hb <;> decide
    | _ => cases he; revert hb; decide

end Sys2Proof
end

section
namespace Sys2Proof.Machine
open Safety

/-! ## What the foreground leaves alone (R15, R22, R24, R29)

One relation says it once, for a line and for a whole operation. It is reflexive and transitive, so that an operation
inherits it from those it calls; the statements about the counter, the configuration, the position and the frame in
progress read it off. -/

/-- A return moves the foreground, and may hand a value over; the fields of the block are carried along. -/
theorem opReturn_frame (v : Value) (s : State) :
    ∃ l st r, opReturn v s = { s with fgAt := l, callStack := st, ret := r } :=
  returnTo_frame s.callStack v s

@[simp] theorem opReturn_monoActive (v : Value) (s : State) : (opReturn v s).monoActive = s.monoActive := by
  obtain ⟨l, st, r, h⟩ := opReturn_frame v s; rw [h]

/-- Where the foreground can put `pos`: it leaves it, zeroes it, or homes it to a down bound in range (R86, R88). -/
def posKeptOrHomed (s t : State) : Prop :=
  t.pos = s.pos ∨ t.pos = 0 ∨ (t.pos = s.cfg.downBound ∧ posInRange s.cfg s.cfg.downBound = true)

/-- What a foreground line or operation leaves alone. -/
structure ForegroundFrame (s t : State) : Prop where
  cfg : t.cfg = s.cfg
  tick : t.tick = s.tick
  pos : posKeptOrHomed s t
  nbits : (frameOf s).nbits ≤ 32 → (frameOf t).nbits ≤ 32

namespace ForegroundFrame

theorem refl (s : State) : ForegroundFrame s s := ⟨rfl, rfl, .inl rfl, id⟩

theorem trans {s t u : State} (h : ForegroundFrame s t) (h' : ForegroundFrame t u) : ForegroundFrame s u where
  cfg := h'.cfg.trans h.cfg
  tick := h'.tick.trans h.tick
  nbits := h'.nbits ∘ h.nbits
  pos := by
    rcases h'.pos with hp | hp | ⟨hp, hr⟩
    · unfold posKeptOrHomed; rw [hp]; exact h.pos
    · exact .inr (.inl hp)
    · rw [h.cfg] at hp hr; exact .inr (.inr ⟨hp, hr⟩)

/-- A line or operation that touches neither `pos` nor the frame in progress. -/
theorem of_eqs {s t : State} (hc : t.cfg = s.cfg) (ht : t.tick = s.tick) (hp : t.pos = s.pos) (hi : t.ir = s.ir) :
    ForegroundFrame s t :=
  ⟨hc, ht, .inl hp, fun h => by rwa [frameOf, hi]⟩

/-- A part of the read: the frame in progress is written within its 32 bits. -/
theorem of_nbits {s t : State} (hc : t.cfg = s.cfg) (ht : t.tick = s.tick) (hp : t.pos = s.pos)
    (hi : (frameOf s).nbits ≤ 32 → (frameOf t).nbits ≤ 32) : ForegroundFrame s t :=
  ⟨hc, ht, .inl hp, hi⟩

/-- A return after it changes none of these cells. -/
theorem opReturn {s t : State} {v : Value} (h : ForegroundFrame s t) : ForegroundFrame s (opReturn v t) := by
  obtain ⟨l, st, r, hr⟩ := opReturn_frame v t
  rw [hr]
  exact h.trans (.of_eqs rfl rfl rfl rfl)

end ForegroundFrame

/-! ### The operations -/

theorem setDirection_foregroundFrame (d : Direction) (s : State) : ForegroundFrame s (setDirection d s) := by
  obtain ⟨_, _, _, _, _, _, h⟩ := setDirection_frame d s
  rw [h]
  exact .of_eqs rfl rfl rfl rfl

theorem checkStopConditions_foregroundFrame (s : State) : ForegroundFrame s (checkStopConditions s) := by
  obtain ⟨_, _, _, _, _, _, h⟩ := checkStopConditions_frame s
  rw [h]
  exact .of_eqs rfl rfl rfl rfl

theorem regularCheck_foregroundFrame (s : State) : ForegroundFrame s (regularCheck s) := by
  rw [regularCheck_eq]
  exact .of_eqs rfl rfl rfl rfl

theorem goHome_foregroundFrame {s t : State} (h : goHome s = .next t) : ForegroundFrame s t := by
  rcases goHome_eq_next h with ⟨-, rfl⟩ | ⟨-, -, rfl⟩ | ⟨-, -, hr, rfl⟩
  · exact .refl _
  · exact .of_eqs rfl rfl rfl rfl
  · have hq : ForegroundFrame s (homingRequest s) := ⟨rfl, rfl, .inr (.inr ⟨rfl, hr⟩), id⟩
    exact hq.trans (setDirection_foregroundFrame .up (homingRequest s))

theorem onEndswitchTriggered_foregroundFrame {s t : State} (h : onEndswitchTriggered s = .next t) :
    ForegroundFrame s t := by
  cases (onEndswitchTriggered_eq s).symm.trans h
  split
  · exact .refl s
  · exact ⟨rfl, rfl, .inr (.inl rfl), id⟩

/-- Every command of the dispatcher is On's homing, a request with the window, a request, or nothing (R111 to R117). -/
theorem dispatch_eq_next {b : Button} {s t : State} (h : dispatch b s = .next t) :
    (b = .on ∧ s.err = .rotationFault ∧ goHome s = .next t) ∨
    ((b = .off ∨ (b = .on ∧ s.err ≠ .rotationFault)) ∧ ∃ d, t = trigger (setDirection d s)) ∨
    (∃ d, t = setDirection d s) ∨ t = s := by
  cases b with
  | on =>
    by_cases he : s.err = .rotationFault
    · exact .inl ⟨rfl, he, commandOn_of_rotationFault he ▸ h⟩
    · cases (commandOn_of_no_rotationFault he).symm.trans h
      exact .inr (.inl ⟨.inr ⟨rfl, he⟩, _, rfl⟩)
  | off => cases h; exact .inr (.inl ⟨.inl rfl, _, rfl⟩)
  | up => cases h; split <;> exact .inr (.inr (.inl ⟨_, rfl⟩))
  | down => cases h; split <;> exact .inr (.inr (.inl ⟨_, rfl⟩))
  | set => cases h; exact .inr (.inr (.inr rfl))
  | unknown => cases h; exact .inr (.inr (.inl ⟨_, rfl⟩))

theorem dispatch_foregroundFrame {b : Button} {s t : State} (h : dispatch b s = .next t) : ForegroundFrame s t := by
  rcases dispatch_eq_next h with ⟨-, -, h⟩ | ⟨-, d, rfl⟩ | ⟨d, rfl⟩ | rfl
  · exact goHome_foregroundFrame h
  · exact (setDirection_foregroundFrame d s).trans (.of_eqs rfl rfl rfl rfl)
  · exact setDirection_foregroundFrame d s
  · exact .refl _

/-- Line C3 with its callback: the switch sampled, and `pos` zeroed where it read engaged and the screen is not moving
Down (R88, R127). -/
def endSwitchPolled (s : State) : State :=
  { switchSampled s with pos := if s.endSwitchN = false ∧ s.dir ≠ .down then 0 else s.pos }

theorem pollEndSwitch_eq (s : State) : pollEndSwitch s = .next (endSwitchPolled s) := by
  unfold pollEndSwitch endSwitchPolled
  cases hsw : s.endSwitchN <;> by_cases hd : s.dir = .down <;>
    simp [onEndswitchTriggered_eq, readEngaged_snd_eq, switchSampled, hsw, hd]

/-- Lines C3 to C5 always answer (R125). -/
theorem loopTail_eq (s : State) : loopTail s = .next (driveLed (checkStopConditions (endSwitchPolled s))) := by
  rw [loopTail, pollEndSwitch_eq, andThen_next]

theorem loopTail_foregroundFrame {s t : State} (h : loopTail s = .next t) : ForegroundFrame s t := by
  cases (loopTail_eq s).symm.trans h
  have hp : ForegroundFrame s (endSwitchPolled s) := by
    refine ⟨rfl, rfl, ?_, id⟩
    unfold posKeptOrHomed endSwitchPolled
    split
    · exact .inr (.inl rfl)
    · exact .inl rfl
  exact (hp.trans (checkStopConditions_foregroundFrame _)).trans (.of_eqs rfl rfl rfl rfl)

/-! ### The read -/

theorem shiftIn_nbits_le {tBit d : Nat} {f : IrFrame} (h : f.nbits ≤ 32) : (shiftIn tBit d f).nbits ≤ 32 := by
  unfold shiftIn
  split
  · assumption
  · exact h

theorem irScan_nbits_le (tBit tEof : Nat) (inHigh : Bool) (f : IrFrame) (level : Bool) (rest : List Bool)
    (h : f.nbits ≤ 32) : (irScan tBit tEof inHigh f level rest).frame.nbits ≤ 32 := by
  induction inHigh, f, level, rest using irScan.induct tBit tEof with
  | case1 f => exact h
  | case2 f x xs ih => exact ih h
  | case3 f => exact h
  | case4 f x xs ih => exact ih h
  | case5 f level ho => rw [irScan, if_pos ho]; exact h
  | case6 f ho => rw [irScan, if_neg ho, if_pos rfl]; exact h
  | case7 f level ho hl => rw [irScan, if_neg ho, if_neg hl]; exact shiftIn_nbits_le h
  | case8 f level x xs ho => rw [irScan, if_pos ho]; exact h
  | case9 f x xs ho ih => rw [irScan, if_neg ho, if_pos rfl]; exact ih h
  | case10 f level x xs ho hl ih => rw [irScan, if_neg ho, if_neg hl]; exact ih (shiftIn_nbits_le h)

/-- The state after a read that returns: the samples taken, no frame retained (R105). -/
def readReturned (s : State) : State := { afterScan (scanLine s) s with ir := none }

/-- The state of a read that waits: the samples taken, the foreground at I1 with what it has received (R110). -/
def readWaiting (conts : List Cont) (s : State) : State :=
  parkInRead conts (scanLine s).frame (afterScan (scanLine s) s)

/-- The button of the frame a read returns (R106). -/
def readButton (s : State) : Button :=
  buttonOf s.cfg (frameValue (scanLine s).frame).1 (frameValue (scanLine s).frame).2

theorem execIrReadFrame_of_returned {s : State} (h : (scanLine s).returned = true) :
    execIrReadFrame s = .next (withRet
      (.frame (frameValue (scanLine s).frame).1 (frameValue (scanLine s).frame).2) (readReturned s)) :=
  if_pos h

theorem execIrReadFrame_of_waiting {s : State} (h : (scanLine s).returned = false) :
    execIrReadFrame s = .next (readWaiting [.alone s.fgAt] s) :=
  if_neg (Bool.eq_false_iff.1 h)

/-- R125: with the line idle an iteration is the latch's poll, one sample, and C3 to C5. -/
theorem execLoopIteration_of_idle {s : State} (h : s.irLine = true) :
    execLoopIteration s = returnsUnit (loopTail (irSampled (regularCheck s))) := by
  have hq : (regularCheck s).irLine = true := by rw [regularCheck_eq]; exact h
  exact if_pos hq

/-- The read of an iteration depends on the ports and the configuration alone. -/
theorem scanLine_regularCheck (s : State) : scanLine (irSampled (regularCheck s)) = scanLine (irSampled s) := by
  rw [regularCheck_eq]; rfl

theorem readButton_regularCheck (s : State) :
    readButton (irSampled (regularCheck s)) = readButton (irSampled s) := by
  rw [regularCheck_eq]; rfl

/-- R125: an iteration whose read returns dispatches the frame's button before C3. -/
theorem execLoopIteration_of_returned {s : State} (h : s.irLine = false)
    (hr : (scanLine (irSampled s)).returned = true) :
    execLoopIteration s = returnsUnit (andThen
      (dispatch (readButton (irSampled s)) (readReturned (irSampled (regularCheck s)))) loopTail) := by
  have hq : (regularCheck s).irLine ≠ true := by rw [regularCheck_eq]; exact Bool.eq_false_iff.1 h
  rw [← scanLine_regularCheck] at hr
  have hb : buttonOf s.cfg (frameValue (scanLine (irSampled (regularCheck s))).frame).1
      (frameValue (scanLine (irSampled (regularCheck s))).frame).2 = readButton (irSampled s) := by
    rw [scanLine_regularCheck]; rfl
  rw [← hb]
  exact (if_neg hq).trans (if_pos hr)

/-- R110, R125: an iteration whose read waits stands in it, and C2 is to judge the frame. -/
theorem execLoopIteration_of_waiting {s : State} (h : s.irLine = false)
    (hr : (scanLine (irSampled s)).returned = false) :
    execLoopIteration s = .next (readWaiting [.c2, .alone s.fgAt] (irSampled (regularCheck s))) := by
  have hq : (regularCheck s).irLine ≠ true := by rw [regularCheck_eq]; exact Bool.eq_false_iff.1 h
  rw [← scanLine_regularCheck] at hr
  exact (if_neg hq).trans (if_neg (Bool.eq_false_iff.1 hr))

/-- Everything a read that answers can be. -/
theorem execIrReadFrame_eq_next {s t : State} (h : execIrReadFrame s = .next t) :
    (∃ v, t = withRet v (readReturned s)) ∨ t = readWaiting [.alone s.fgAt] s := by
  cases hr : (scanLine s).returned
  · cases (execIrReadFrame_of_waiting hr).symm.trans h; exact .inr rfl
  · cases (execIrReadFrame_of_returned hr).symm.trans h; exact .inl ⟨_, rfl⟩

/-- Everything an iteration that answers can be. -/
theorem execLoopIteration_eq_next {s t : State} (h : execLoopIteration s = .next t) :
    (∃ u, loopTail (irSampled (regularCheck s)) = .next u ∧ t = { u with ret := .unit }) ∨
    (s.irLine = false ∧ (scanLine (irSampled s)).returned = true ∧ ∃ v u,
      dispatch (readButton (irSampled s)) (readReturned (irSampled (regularCheck s))) = .next v ∧
      loopTail v = .next u ∧ t = { u with ret := .unit }) ∨
    t = readWaiting [.c2, .alone s.fgAt] (irSampled (regularCheck s)) := by
  cases hl : s.irLine
  · cases hr : (scanLine (irSampled s)).returned
    · cases (execLoopIteration_of_waiting hl hr).symm.trans h
      exact .inr (.inr rfl)
    · rw [execLoopIteration_of_returned hl hr] at h
      obtain ⟨u, hu, rfl⟩ := returnsUnit_eq_next h
      obtain ⟨v, hv, hu⟩ := andThen_eq_next hu
      exact .inr (.inl ⟨rfl, rfl, v, u, hv, hu, rfl⟩)
  · rw [execLoopIteration_of_idle hl] at h
    exact .inl (returnsUnit_eq_next h)

/-- A read that has returned retains no frame. -/
theorem readReturned_foregroundFrame (s : State) : ForegroundFrame s (readReturned s) :=
  .of_nbits rfl rfl rfl fun _ => Nat.zero_le _

/-- A read that waits holds a frame of at most 32 bits. -/
theorem readWaiting_foregroundFrame (conts : List Cont) (s : State) : ForegroundFrame s (readWaiting conts s) :=
  .of_nbits rfl rfl rfl fun _ => irScan_nbits_le _ _ _ _ _ _ (Nat.zero_le _)

/-! ### One foreground line -/

theorem dispatchLine_foregroundFrame (b : Button) (s : State) : ForegroundFrame s (dispatchLine b s) := by
  cases b with
  | on => unfold dispatchLine; dsimp only; split <;> exact .of_eqs rfl rfl rfl rfl
  | off => exact .of_eqs rfl rfl rfl rfl
  | up => unfold dispatchLine; dsimp only; split <;> exact .of_eqs rfl rfl rfl rfl
  | down => unfold dispatchLine; dsimp only; split <;> exact .of_eqs rfl rfl rfl rfl
  | set => exact (ForegroundFrame.refl s).opReturn
  | unknown => exact .of_eqs rfl rfl rfl rfl

theorem measureLine_foregroundFrame (s : State) : ForegroundFrame s (measureLine s) := by
  unfold measureLine
  split
  · exact .of_eqs rfl rfl rfl rfl
  · dsimp only
    split
    · exact .of_nbits rfl rfl rfl id
    · exact .of_eqs rfl rfl rfl rfl

theorem phaseLine_foregroundFrame (s : State) : ForegroundFrame s (phaseLine s) := by
  unfold phaseLine
  split
  · exact .opReturn (.of_nbits rfl rfl rfl fun _ => Nat.zero_le _)
  · exact .of_nbits rfl rfl rfl shiftIn_nbits_le

/-- The two lines that write `pos` are G4 and N1; those of the read write the frame in progress (R86, R88, R101). -/
theorem fgLine_foregroundFrame {s t : State} (h : fgLine s = .next t) : ForegroundFrame s t := by
  cases hf : s.fgAt <;> simp only [fgLine, hf] at h
  case g4 =>
    obtain ⟨u, hu, ht⟩ := andThen_eq_next h
    obtain ⟨hr, rfl⟩ := writePos_eq_next hu
    cases ht
    exact ⟨rfl, rfl, .inr (.inr ⟨rfl, hr⟩), id⟩
  case n1 =>
    obtain ⟨u, hu, ht⟩ := andThen_eq_next h
    cases ht
    exact (onEndswitchTriggered_foregroundFrame hu).opReturn
  all_goals cases h
  case i0 => exact .of_nbits rfl rfl rfl fun _ => Nat.zero_le _
  case i2 => exact .of_nbits rfl rfl rfl id
  case i3 => exact measureLine_foregroundFrame s
  case i4 => exact phaseLine_foregroundFrame s
  case d0 => exact dispatchLine_foregroundFrame _ s
  case q1 => exact (regularCheck_foregroundFrame s).opReturn
  case c5 | u3 | w2 | a4 | e4 | m2 => exact .opReturn (.of_eqs rfl rfl rfl rfl)
  case s1 | g1 | g3 =>
    split
    · exact .opReturn (.of_eqs rfl rfl rfl rfl)
    · exact .of_eqs rfl rfl rfl rfl
  case b4 | c2 | c3 | k1 | k1b | k2 | k2a | i1 => split <;> exact .of_eqs rfl rfl rfl rfl
  case s2 d => cases d <;> exact .of_eqs rfl rfl rfl rfl
  case a1 d => cases d <;> exact .of_eqs rfl rfl rfl rfl
  case a2 d => cases d <;> exact .of_eqs rfl rfl rfl rfl
  case a3 d =>
    cases d with
    | neutral => exact .opReturn (.of_eqs rfl rfl rfl rfl)
    | up | down => exact .of_eqs rfl rfl rfl rfl
  case k3 =>
    unfold limitLine
    split
    · exact .of_eqs rfl rfl rfl rfl
    · exact .of_eqs rfl rfl rfl rfl
    · exact (ForegroundFrame.refl s).opReturn
  case b2 => apply ForegroundFrame.of_eqs <;> simp [driveResetOutputs]
  all_goals exact .of_eqs rfl rfl rfl rfl

/-! ### The interrupt, and every operation -/

/-- The cells of a handler run: its own bits, the bias port, `pos` by a tick in the commanded direction, `ltt` (R44). -/
def HandlerRun (s t : State) : Prop :=
  ∃ reg port last p l, t = { s with biasReg := reg, bias := port, lastLevel := last, pos := p, ltt := l } ∧
    (p = s.pos ∨ (s.dir = .down ∧ p = s.pos + 1 ∧ posInRange s.cfg p = true) ∨
      (s.dir = .up ∧ p = s.pos - 1 ∧ posInRange s.cfg p = true))

theorem onRotationTick_handlerRun {s t : State} (h : onRotationTick s = .next t) : HandlerRun s t := by
  obtain ⟨p, rfl, h0, hdown, hup⟩ := onRotationTick_eq_next h
  refine ⟨_, _, _, p, _, rfl, ?_⟩
  cases hd : s.dir with
  | neutral => exact .inl (h0 hd)
  | up => exact .inr (.inr ⟨rfl, hup hd⟩)
  | down => exact .inr (.inl ⟨rfl, hdown hd⟩)

theorem onComparatorEdge_handlerRun {level : Bool} {s t : State} (h : onComparatorEdge level s = .next t) :
    HandlerRun s t := by
  obtain ⟨p, l, rfl, hsame, hgenuine⟩ := onComparatorEdge_eq_next h
  refine ⟨_, _, _, p, l, rfl, ?_⟩
  by_cases hl : level = s.lastLevel
  · exact .inl (hsame hl).1
  · obtain ⟨-, h0, hdown, hup⟩ := hgenuine hl
    cases hd : s.dir with
    | neutral => exact .inl (h0 hd)
    | up => exact .inr (.inr ⟨rfl, hup hd⟩)
    | down => exact .inr (.inl ⟨rfl, hdown hd⟩)

theorem returnsUnit_foregroundFrame {o : Result} {s t : State} (h : returnsUnit o = .next t)
    (ho : ∀ u, o = .next u → ForegroundFrame s u) : ForegroundFrame s t := by
  obtain ⟨u, hu, rfl⟩ := returnsUnit_eq_next h
  exact (ho u hu).trans (.of_eqs rfl rfl rfl rfl)

theorem execIrReadFrame_foregroundFrame {s t : State} (h : execIrReadFrame s = .next t) : ForegroundFrame s t := by
  rcases execIrReadFrame_eq_next h with ⟨v, rfl⟩ | rfl
  · exact (readReturned_foregroundFrame s).trans (.of_eqs rfl rfl rfl rfl)
  · exact readWaiting_foregroundFrame _ s

theorem execLoopIteration_foregroundFrame {s t : State} (h : execLoopIteration s = .next t) :
    ForegroundFrame s t := by
  have hq : ForegroundFrame s (irSampled (regularCheck s)) :=
    (regularCheck_foregroundFrame s).trans (.of_eqs rfl rfl rfl rfl)
  rcases execLoopIteration_eq_next h with ⟨u, hu, rfl⟩ | ⟨-, -, v, u, hv, hu, rfl⟩ | rfl
  · exact (hq.trans (loopTail_foregroundFrame hu)).trans (.of_eqs rfl rfl rfl rfl)
  · have hv := (readReturned_foregroundFrame _).trans (dispatch_foregroundFrame hv)
    exact ((hq.trans hv).trans (loopTail_foregroundFrame hu)).trans (.of_eqs rfl rfl rfl rfl)
  · exact hq.trans (readWaiting_foregroundFrame _ _)

/-- What an operation leaves alone: the timer's moves the counter only, the interrupt's is a handler run, and every other
one is the foreground's. -/
theorem exec_cases {i : Instr} {s t : State} (h : exec i s = .next t) :
    ForegroundFrame s t ∨ (i = .timerStep ∧ t = timerStep s) ∨ HandlerRun s t := by
  cases i with
  | timerStep => cases h; exact .inr (.inl ⟨rfl, rfl⟩)
  | onRotationTick => exact .inr (.inr (onRotationTick_handlerRun h))
  | onComparatorEdge level => exact .inr (.inr (onComparatorEdge_handlerRun h))
  | irOn | irOff | irUp | irDown | irSet | irUnknown | dispatch =>
    rw [exec_of_pressedButton rfl] at h
    exact .inl (returnsUnit_foregroundFrame h fun u hu => dispatch_foregroundFrame hu)
  | goHome => exact .inl (returnsUnit_foregroundFrame h fun u hu => goHome_foregroundFrame hu)
  | onEndswitchTriggered =>
    exact .inl (returnsUnit_foregroundFrame h fun u hu => onEndswitchTriggered_foregroundFrame hu)
  | setDirection d =>
    cases h; exact .inl ((setDirection_foregroundFrame d s).trans (.of_eqs rfl rfl rfl rfl))
  | checkStopConditions =>
    cases h; exact .inl ((checkStopConditions_foregroundFrame s).trans (.of_eqs rfl rfl rfl rfl))
  | regularCheck => cases h; exact .inl ((regularCheck_foregroundFrame s).trans (.of_eqs rfl rfl rfl rfl))
  | irReadFrame => exact .inl (execIrReadFrame_foregroundFrame h)
  | loopIteration => exact .inl (execLoopIteration_foregroundFrame h)
  | ticksFor =>
    change execTicksFor s = _ at h
    unfold execTicksFor at h
    split at h <;> cases h
    exact .inl (.of_eqs rfl rfl rfl rfl)
  | now | wrapSub | upStopCondition | downStopCondition | error | enterError | trigger | isActive | irDecode
  | decodeButton | ledValue => cases h; exact .inl (.of_eqs rfl rfl rfl rfl)

/-- Settles O17: a line and every operation but the timer's leave the counter alone, and so does a handler run. -/
theorem onlyTheTimerMovesTheCounter : Obligations.OnlyTheTimerMovesTheCounter := by
  refine ⟨fun s t h => (fgLine_foregroundFrame h).tick, fun i s t hi h => ?_⟩
  rcases exec_cases h with hf | ⟨ht, -⟩ | ⟨_, _, _, _, _, rfl, -⟩
  · exact hf.tick
  · exact absurd ht hi
  · rfl

/-! ### Every step -/

/-- What a step can do to the configuration, to `pos` and to the frame in progress. -/
structure StepFrame (s t : State) : Prop where
  cfg : t.cfg = s.cfg
  pos : posKeptOrHomed s t ∨
    (s.dir = .down ∧ t.pos = s.pos + 1 ∧ posInRange s.cfg t.pos = true) ∨
    (s.dir = .up ∧ t.pos = s.pos - 1 ∧ posInRange s.cfg t.pos = true) ∨
    (t.pos = s.cfg.posReset ∧ t.fgAt = .b1)
  nbits : (frameOf s).nbits ≤ 32 → (frameOf t).nbits ≤ 32

theorem ForegroundFrame.stepFrame {s t : State} (h : ForegroundFrame s t) : StepFrame s t :=
  ⟨h.cfg, .inl h.pos, h.nbits⟩

theorem HandlerRun.stepFrame {s t : State} (h : HandlerRun s t) : StepFrame s t := by
  obtain ⟨_, _, _, p, _, rfl, hp | hp | hp⟩ := h
  · exact ⟨rfl, .inl (.inl hp), id⟩
  · exact ⟨rfl, .inr (.inl hp), id⟩
  · exact ⟨rfl, .inr (.inr (.inl hp)), id⟩

/-- A move that touches none of these cells. -/
theorem StepFrame.of_eqs {s t : State} (hc : t.cfg = s.cfg) (hp : t.pos = s.pos) (hi : t.ir = s.ir) :
    StepFrame s t :=
  ⟨hc, .inl (.inl hp), fun h => by rwa [frameOf, hi]⟩

theorem runMove_stepFrame {m : Move} {s t : State} (h : runMove m s = .next t) : StepFrame s t := by
  cases m with
  | foreground => exact (fgLine_foregroundFrame h).stepFrame
  | compEdge level =>
    change deliverEdge level s = _ at h
    unfold deliverEdge at h
    split at h
    · exact (onComparatorEdge_handlerRun h).stepFrame
    · cases h; exact .of_eqs rfl rfl rfl
  | reset => cases h; exact ⟨rfl, .inr (.inr (.inr ⟨rfl, rfl⟩)), fun _ => Nat.zero_le _⟩
  | timer | irLine | endSwitch => cases h; exact .of_eqs rfl rfl rfl

theorem step_stepFrame {s t : State} (h : step s = .next t) : StepFrame s t := by
  -- the script and the count of draws are none of the cells of a `StepFrame`
  have script : ∀ {st n u st'}, StepFrame { s with stimuli := st, draws := n } u →
      StepFrame s { u with stimuli := st' } := fun h => ⟨h.cfg, h.pos, h.nbits⟩
  obtain ⟨-, ⟨-, h⟩ | ⟨m, rest, -, h⟩ | ⟨l, m, more, rest, st, -, h⟩ | ⟨bytes, i, rest, -, -, -, h⟩ |
    ⟨o, rest, -, rfl⟩ | ⟨st, u, hl, st', rfl⟩⟩ := step_cases h
  · exact script (runMove_stepFrame h)
  · exact script (runMove_stepFrame h)
  · exact script (runMove_stepFrame h)
  · rcases exec_cases h with hf | ⟨-, rfl⟩ | hh
    · exact script hf.stepFrame
    · exact .of_eqs rfl rfl rfl
    · exact script hh.stepFrame
  · exact .of_eqs (writeOperand_cfg o _) (writeOperand_pos o _) (writeOperand_ir o _)
  · exact script (fgLine_foregroundFrame hl).stepFrame

/-- Settles O60: the configuration is a cell of every `StepFrame`. -/
theorem configurationIsNeverWritten : Obligations.ConfigurationIsNeverWritten :=
  fun _ _ h => (step_stepFrame h).cfg

/-- Settles O31: a `StepFrame` lists the ways `pos` can move. -/
theorem onlyTicksAndHomingMoveThePosition : Obligations.OnlyTicksAndHomingMoveThePosition := by
  intro s t h
  rcases (step_stepFrame h).pos with (hk | h0 | ⟨hb, -⟩) | ⟨hd, hp, -⟩ | ⟨hd, hp, -⟩ | hr
  · exact .inl hk
  · exact .inr (.inr (.inr (.inl h0)))
  · exact .inr (.inr (.inr (.inr (.inl hb))))
  · exact .inr (.inl ⟨hd, hp⟩)
  · exact .inr (.inr (.inl ⟨hd, hp⟩))
  · exact .inr (.inr (.inr (.inr (.inr hr))))

/-- R6: the reset position of a well-formed configuration is in range. -/
theorem posReset_posInRange {cfg : Config} (h : configOk cfg = true) : posInRange cfg cfg.posReset = true := by
  simp only [configOk, openParamsOk, Bool.and_eq_true] at h
  tauto

/-- Settles O58: every way a step moves `pos` stays in range, and the frame in progress stays within 32 bits. -/
theorem everyStepKeepsTheRanges : Obligations.EveryStepKeepsTheRanges := by
  intro s t hp hn h
  have hc : configOk s.cfg = true := (step_cases h).1
  have hf := step_stepFrame h
  refine ⟨?_, hf.nbits hn⟩
  unfold PosInv
  rw [hf.cfg]
  rcases hf.pos with (hk | h0 | ⟨hb, hr⟩) | ⟨-, -, hr⟩ | ⟨-, -, hr⟩ | ⟨hr, -⟩
  · rw [hk]; exact hp
  · rw [h0]; exact zero_posInRange s.cfg
  · rw [hb]; exact hr
  · exact hr
  · exact hr
  · rw [hr]; exact posReset_posInRange hc

end Sys2Proof.Machine
end

section
namespace Sys2Proof.Machine
open Safety

/-! ## What opens the window (R98, R118) -/

@[simp] theorem setDirection_monoActive (d : Direction) (s : State) :
    (setDirection d s).monoActive = s.monoActive := by
  obtain ⟨_, _, _, _, _, _, h⟩ := setDirection_frame d s; rw [h]

@[simp] theorem checkStopConditions_monoActive (s : State) :
    (checkStopConditions s).monoActive = s.monoActive := by
  obtain ⟨_, _, _, _, _, _, h⟩ := checkStopConditions_frame s; rw [h]

theorem goHome_monoActive {s t : State} (h : goHome s = .next t) : t.monoActive = s.monoActive := by
  rcases goHome_eq_next h with ⟨-, rfl⟩ | ⟨-, -, rfl⟩ | ⟨-, -, -, rfl⟩
  · rfl
  · rfl
  · exact setDirection_monoActive .up _

theorem loopTail_monoActive {s t : State} (h : loopTail s = .next t) : t.monoActive = s.monoActive := by
  cases (loopTail_eq s).symm.trans h
  exact checkStopConditions_monoActive _

/-- R112, R113: a command that opens the window is Off, or On outside a RotationFault. -/
theorem dispatch_opens {b : Button} {s t : State} (h : dispatch b s = .next t) (hs : s.monoActive = false)
    (ht : t.monoActive = true) : b = .off ∨ (b = .on ∧ s.err ≠ .rotationFault) := by
  rcases dispatch_eq_next h with ⟨-, -, h⟩ | ⟨hb, -⟩ | ⟨d, rfl⟩ | rfl
  · rw [goHome_monoActive h, hs] at ht; cases ht
  · exact hb
  · rw [setDirection_monoActive, hs] at ht; cases ht
  · rw [hs] at ht; cases ht

/-- An operation that returns nothing opens the window where its body does. -/
theorem returnsUnit_eq_next_active {o : Result} {t : State} (h : returnsUnit o = .next t)
    (ht : t.monoActive = true) : ∃ u, o = .next u ∧ u.monoActive = true := by
  obtain ⟨u, hu, rfl⟩ := returnsUnit_eq_next h
  exact ⟨u, hu, ht⟩

/-- R118: an iteration opens the window by the button of a frame it has read from the line. -/
theorem execLoopIteration_opens {s t : State} (h : execLoopIteration s = .next t) (hs : s.monoActive = false)
    (ht : t.monoActive = true) :
    s.irLine = false ∧ (scanLine (irSampled s)).returned = true ∧
      (readButton (irSampled s) = .off ∨ (readButton (irSampled s) = .on ∧ s.err ≠ .rotationFault)) := by
  have hq : (regularCheck s).monoActive = false := by rw [regularCheck_eq, hs, Bool.false_and]
  have he : (regularCheck s).err = s.err := by rw [regularCheck_eq]
  have hcases := execLoopIteration_eq_next h
  generalize regularCheck s = q at hq he hcases
  rcases hcases with ⟨u, hu, rfl⟩ | ⟨hl, hr, v, u, hv, hu, rfl⟩ | rfl
  · exact absurd (((loopTail_monoActive hu).symm.trans ht).symm.trans hq) (by decide)
  · have hv := dispatch_opens hv hq ((loopTail_monoActive hu).symm.trans ht)
    rw [← he]
    exact ⟨hl, hr, hv⟩
  · exact absurd (ht.symm.trans hq) (by decide)

theorem exec_opens {i : Instr} {s t : State} (h : exec i s = .next t) (hs : s.monoActive = false)
    (ht : t.monoActive = true) :
    i = .trigger ∨ (∃ b, pressedButton i = some b ∧ (b = .off ∨ (b = .on ∧ s.err ≠ .rotationFault))) ∨
      i = .loopIteration := by
  -- an operation that leaves the latch alone cannot have opened it
  have kept : ∀ {u : State}, u.monoActive = s.monoActive → u.monoActive = true → False := fun hu hu' => by
    rw [hu, hs] at hu'; cases hu'
  cases i with
  | trigger => exact .inl rfl
  | loopIteration => exact .inr (.inr rfl)
  | irOn | irOff | irUp | irDown | irSet | irUnknown | dispatch =>
    rw [exec_of_pressedButton rfl] at h
    obtain ⟨u, hu, ht⟩ := returnsUnit_eq_next_active h ht
    exact .inr (.inl ⟨_, rfl, dispatch_opens hu hs ht⟩)
  | goHome =>
    obtain ⟨u, hu, ht⟩ := returnsUnit_eq_next_active h ht
    exact (kept (goHome_monoActive hu) ht).elim
  | onEndswitchTriggered =>
    obtain ⟨u, hu, ht⟩ := returnsUnit_eq_next_active h ht
    cases (onEndswitchTriggered_eq s).symm.trans hu
    exact (kept (by split <;> rfl) ht).elim
  | setDirection d => cases h; exact (kept (setDirection_monoActive d s) ht).elim
  | checkStopConditions => cases h; exact (kept (checkStopConditions_monoActive s) ht).elim
  | regularCheck =>
    cases h
    have hq : (regularCheck s).monoActive = s.monoActive := by rw [regularCheck_eq, hs, Bool.false_and]
    exact (kept hq ht).elim
  | onRotationTick =>
    obtain ⟨_, _, _, _, _, rfl, -⟩ := onRotationTick_handlerRun h
    exact (kept rfl ht).elim
  | onComparatorEdge level =>
    obtain ⟨_, _, _, _, _, rfl, -⟩ := onComparatorEdge_handlerRun h
    exact (kept rfl ht).elim
  | irReadFrame =>
    rcases execIrReadFrame_eq_next h with ⟨v, rfl⟩ | rfl
    · exact (kept rfl ht).elim
    · exact (kept rfl ht).elim
  | ticksFor =>
    change execTicksFor s = _ at h
    unfold execTicksFor at h
    split at h <;> cases h
    exact (kept rfl ht).elim
  | timerStep | now | wrapSub | upStopCondition | downStopCondition | error | enterError | isActive | irDecode
  | decodeButton | ledValue => cases h; exact (kept rfl ht).elim

theorem dispatchLine_monoActive (b : Button) (s : State) : (dispatchLine b s).monoActive = s.monoActive := by
  cases b with
  | on => unfold dispatchLine; dsimp only; split <;> rfl
  | off => rfl
  | up => unfold dispatchLine; dsimp only; split <;> rfl
  | down => unfold dispatchLine; dsimp only; split <;> rfl
  | set => exact opReturn_monoActive _ s
  | unknown => rfl

/-- R98: of the foreground's lines only M2 sets the latch, and Q1 can only clear it. -/
theorem fgLine_opens {s t : State} (h : fgLine s = .next t) (hs : s.monoActive = false)
    (ht : t.monoActive = true) : s.fgAt = .m2 := by
  cases hf : s.fgAt
  case m2 => rfl
  all_goals
    exfalso
    refine Bool.false_ne_true (hs.symm.trans (Eq.trans ?_ ht))
    simp only [fgLine, hf] at h
  case g4 =>
    obtain ⟨u, hu, ht⟩ := andThen_eq_next h
    obtain ⟨-, rfl⟩ := writePos_eq_next hu
    cases ht; rfl
  case n1 =>
    rw [onEndswitchTriggered_eq] at h
    cases h
    split <;> simp
  all_goals cases h
  case q1 => rw [opReturn_monoActive, regularCheck_eq, hs]; rfl
  case d0 => exact (dispatchLine_monoActive _ s).symm
  case i3 => unfold measureLine; dsimp only; split_ifs <;> rfl
  case i4 => unfold phaseLine; split <;> simp
  case s2 d => cases d <;> rfl
  case a1 d => cases d <;> rfl
  case a2 d => cases d <;> rfl
  case a3 d => cases d <;> simp [recordLine]
  case k3 => unfold limitLine; split <;> simp
  case s1 | g1 | g3 => split <;> simp
  case b4 | c2 | c3 | k1 | k1b | k2 | k2a | i1 => split <;> rfl
  all_goals simp [driveResetOutputs, driveLed, applyA1, applyA2]

/-- R98: only the foreground opens the window. -/
theorem runMove_opens {m : Move} {s t : State} (h : runMove m s = .next t) (hs : s.monoActive = false)
    (ht : t.monoActive = true) : m = .foreground := by
  cases m with
  | foreground => rfl
  | compEdge level =>
    change deliverEdge level s = _ at h
    unfold deliverEdge at h
    split at h
    · obtain ⟨_, _, _, _, _, rfl, -⟩ := onComparatorEdge_handlerRun h
      exact absurd (hs.symm.trans ht) (by decide)
    · cases h; exact absurd (hs.symm.trans ht) (by decide)
  | reset => cases h; cases ht
  | timer | irLine | endSwitch => cases h; exact absurd (hs.symm.trans ht) (by decide)

/-- Settles O34: of the operations only `trigger`, the two buttons and the loop's dispatch of one open a closed window,
of the lines only M2, of the agents only the foreground. -/
theorem onlyOnAndOffOpenTheWindow : Obligations.OnlyOnAndOffOpenTheWindow := by
  refine ⟨fun i s t h hs ht => ?_, fun s t h hs ht => fgLine_opens h hs ht,
    fun m s t h hs ht => runMove_opens h hs ht⟩
  rcases exec_opens h hs ht with rfl | ⟨b, hi, hb⟩ | rfl
  · exact .inl rfl
  · cases i with
    | irOn => exact .inr (.inr (.inr (.inl ⟨.inl rfl, by cases hi; simpa using hb⟩)))
    | irOff => exact .inr (.inl rfl)
    | irUp | irDown | irSet | irUnknown => cases hi; simp at hb
    | dispatch =>
      cases hi
      rcases hb with rfl | ⟨rfl, he⟩
      · exact .inr (.inr (.inl rfl))
      · exact .inr (.inr (.inr (.inl ⟨.inr rfl, he⟩)))
    | _ => cases hi
  · obtain ⟨hl, hr, hb⟩ := execLoopIteration_opens h hs ht
    exact .inr (.inr (.inr (.inr ⟨rfl, hl, hr, _, rfl, hb⟩)))

end Sys2Proof.Machine
end

section
namespace Sys2Proof.Machine
open Safety

/-! ## The motor invariant (R21, R33, R85, R91, R142)

A return to a caller meets the invariant at the caller's line, by the kind of call stack; with that every foreground line
keeps it by itself. An operation run alone starts and ends between operations, where the invariant is `Resting`. -/

/-! ### Returns -/

/-- Where an operation that returns nothing goes on, the invariant is `restful` over a plain stack. -/
theorem motorInv_of_resumable {s : State} (hr : restful (motorView s) = true) (hp : plainStack s.callStack = true)
    (hl : resumable s.fgAt = true) : MotorInv s := by
  unfold MotorInv
  cases hf : s.fgAt <;> rw [hf] at hl <;> first | exact ⟨hr, hp⟩ | cases hl

theorem isLoopLine_resumable {l : Line} (h : isLoopLine l = true) : resumable l = true := by
  cases l <;> first | rfl | cases h

theorem returnTo_plain_motorInv (v : Value) {st : List Cont} {s : State} (hr : restful (motorView s) = true)
    (hp : plainStack st = true) : MotorInv (returnTo v st s) := by
  match st with
  | [] => exact ⟨hr, rfl⟩
  | .line l :: st =>
    rw [plainStack, Bool.and_eq_true] at hp
    exact motorInv_of_resumable (s := { s with fgAt := l, callStack := st }) hr hp.2 hp.1
  | .alone l :: st =>
    rw [plainStack, Bool.and_eq_true] at hp
    exact motorInv_of_resumable (s := { s with fgAt := l, callStack := st, ret := v }) hr hp.2
      (isLoopLine_resumable hp.1)

/-- A stop condition that does not hold has found no error, so that S2 may apply the direction (R81 to R83). -/
theorem returnTo_condition_motorInv {b : Bool} {st : List Cont} {s : State} (hr : restful (motorView s) = true)
    (hc : conditionStack st = true) (hb : b = false → s.err = .none) : MotorInv (returnTo (.bool b) st s) := by
  match st with
  | .s2 d :: st =>
    rw [returnTo_s2]
    split
    · exact returnTo_plain_motorInv _ hr hc
    · rename_i hb'
      refine ⟨?_, hc⟩
      change (restful (motorView s) && (d == .neutral || s.err == .none)) = true
      rw [hr, hb (Bool.eq_false_iff.2 hb')]
      simp
  | .k3 :: st =>
    rw [returnTo_k3]
    split
    · exact ⟨by simp [lineOk, mayApply, hr], hc⟩
    · exact returnTo_plain_motorInv _ hr hc
  | [] => exact returnTo_plain_motorInv _ hr rfl
  | .line l :: st => exact returnTo_plain_motorInv _ hr hc
  | .alone l :: st => exact returnTo_plain_motorInv _ hr hc
  | .c2 :: st => cases hc

theorem returnTo_read_motorInv (n : Nat) (buf : FrameBuf) {st : List Cont} {s : State}
    (hr : restful (motorView s) = true) (hc : readStack st = true) : MotorInv (returnTo (.frame n buf) st s) := by
  match st with
  | .c2 :: st => exact ⟨hr, hc⟩
  | [] => exact returnTo_plain_motorInv _ hr rfl
  | .line l :: st => exact returnTo_plain_motorInv _ hr hc
  | .alone l :: st => exact returnTo_plain_motorInv _ hr hc
  | .s2 d :: st => cases hc
  | .k3 :: st => cases hc

/-! ### The lines -/

theorem motorInv_goto {l : Line} {s : State} (hl : lineOk (motorView s) l = true)
    (hs : stackOk s.callStack l = true) : MotorInv (goto l s) := ⟨hl, hs⟩

theorem motorInv_call {l : Line} {c : Cont} {s : State} (hl : lineOk (motorView s) l = true)
    (hs : stackOk (c :: s.callStack) l = true) : MotorInv (call l c s) := ⟨hl, hs⟩

@[simp] theorem applyA1_callStack (d : Direction) (s : State) : (applyA1 d s).callStack = s.callStack := by
  cases d <;> rfl

@[simp] theorem applyA2_callStack (d : Direction) (s : State) : (applyA2 d s).callStack = s.callStack := by
  cases d <;> rfl

theorem dispatchLine_motorInv {b : Button} {s : State} (hr : restful (motorView s) = true)
    (hp : plainStack s.callStack = true) : MotorInv (dispatchLine b s) := by
  cases b with
  | on => unfold dispatchLine; dsimp only; split <;> exact ⟨hr, hp⟩
  | off => exact ⟨hr, hp⟩
  | up => unfold dispatchLine; dsimp only; split <;> exact ⟨hr, hp⟩
  | down => unfold dispatchLine; dsimp only; split <;> exact ⟨hr, hp⟩
  | set => exact returnTo_plain_motorInv _ hr hp
  | unknown => exact ⟨hr, hp⟩

theorem measureLine_motorInv {s : State} (hf : s.fgAt = .i3) (hr : restful (motorView s) = true)
    (hp : readStack s.callStack = true) : MotorInv (measureLine s) := by
  unfold measureLine
  dsimp only
  split_ifs
  · exact ⟨hr, hp⟩
  · refine ⟨?_, ?_⟩ <;> simp only [writeFrame_fgAt, readIrLine_snd_fgAt, hf] <;> assumption
  · exact ⟨hr, hp⟩

theorem phaseLine_motorInv {s : State} (hr : restful (motorView s) = true) (hp : readStack s.callStack = true) :
    MotorInv (phaseLine s) := by
  unfold phaseLine
  split
  · exact returnTo_read_motorInv _ _ (s := { s with ir := none }) hr hp
  · exact ⟨hr, hp⟩

theorem admitLine_motorInv {d : Direction} {s : State} (hr : restful (motorView s) = true)
    (hp : plainStack s.callStack = true) : MotorInv (admitLine d s) := by
  cases d with
  | neutral => exact motorInv_goto (by simp [lineOk, mayApply, hr]) hp
  | up => exact ⟨hr, hp⟩
  | down => exact ⟨hr, hp⟩

theorem limitLine_motorInv {s : State} (hr : restful (motorView s) = true) (hp : plainStack s.callStack = true) :
    MotorInv (limitLine s) := by
  unfold limitLine
  split
  · exact ⟨hr, hp⟩
  · exact ⟨hr, hp⟩
  · exact returnTo_plain_motorInv _ hr hp

/-- R85: A1 leaves the pin to be energized the only one that can be on. -/
theorem halfApplied_of_applyA1 {d : Direction} {s : State} (hr : restful (motorView s) = true)
    (hm : mayApply d (motorView s) = true) : halfApplied d (motorView (applyA1 d s)) = true := by
  simp only [restful, Bool.and_eq_true] at hr
  cases d <;> simp_all [halfApplied, mayApply, errorStops, applyA1]

/-- R85: A2 makes the pins those of the direction. -/
theorem pinsAre_of_applyA2 {d : Direction} {s : State} (h : halfApplied d (motorView s) = true) :
    pinsAre d (motorView (applyA2 d s)) = true ∧ errorStops (motorView (applyA2 d s)) = true ∧
      mayApply d (motorView (applyA2 d s)) = true := by
  cases d <;> simp_all [halfApplied, pinsAre, errorStops, mayApply, applyA2]

/-- R85: A3 records the direction the pins have. -/
theorem restful_of_writeDir {d : Direction} {s : State} (hp : pinsAre d (motorView s) = true)
    (hm : mayApply d (motorView s) = true) : restful (motorView (writeDir d s)) = true := by
  cases d <;> simp_all [restful, pinsAre, errorStops, mayApply]

theorem recordLine_motorInv {d : Direction} {s : State} (hp : pinsAre d (motorView s) = true)
    (hm : mayApply d (motorView s) = true) (hs : plainStack s.callStack = true) : MotorInv (recordLine d s) := by
  have hr := restful_of_writeDir hp hm
  cases d with
  | neutral => exact returnTo_plain_motorInv _ hr hs
  | up => exact ⟨hr, hs⟩
  | down => exact ⟨hr, hs⟩

/-- R21: an error may be cleared at any time, and recorded in Neutral. -/
theorem restful_of_writeErr {k : ErrorKind} {s : State} (hr : restful (motorView s) = true)
    (hk : k = .none ∨ s.dir = .neutral) : restful (motorView (writeErr k s)) = true := by
  simp only [restful, Bool.and_eq_true] at hr ⊢
  exact ⟨hr.1, by simpa [errorStops] using hk⟩

/-- R21: a moving screen has no error. -/
theorem err_none_of_moving {s : State} (hr : restful (motorView s) = true) (hd : s.dir ≠ .neutral) :
    s.err = .none := by
  simp only [restful, errorStops, Bool.and_eq_true, Bool.or_eq_true, beq_iff_eq] at hr
  exact hr.2.resolve_right hd

theorem fgLine_motorInv {s t : State} (hi : MotorInv s) (h : fgLine s = .next t) : MotorInv t := by
  obtain ⟨hl, hs⟩ := hi
  cases hf : s.fgAt <;> simp only [fgLine, hf] at h <;> rw [hf] at hl hs
  case g4 =>
    obtain ⟨u, hu, ht⟩ := andThen_eq_next h
    obtain ⟨-, rfl⟩ := writePos_eq_next hu
    cases ht
    exact ⟨hl, hs⟩
  case n1 =>
    rw [onEndswitchTriggered_eq] at h
    cases h
    split <;> exact returnTo_plain_motorInv _ hl hs
  all_goals cases h
  -- what each line has tested, or half done, is what the next line's part of the invariant asks for
  case b2 =>
    refine motorInv_goto ?_ hs
    simp only [lineOk, restful, Bool.and_eq_true, beq_iff_eq] at hl
    simp_all [lineOk, restful, driveResetOutputs, pinsAre, errorStops]
  case u1 | w1 => exact motorInv_goto (by simpa [lineOk, errorPresent] using hl) hs
  case u2 => exact motorInv_goto hl hs
  case u3 e p =>
    simp only [lineOk, Bool.and_eq_true, beq_iff_eq] at hl
    refine returnTo_condition_motorInv hl.1 hs fun hb => ?_
    simp only [Bool.or_eq_false_iff] at hb
    simpa [hl.2] using hb.1.1
  case w2 e =>
    simp only [lineOk, Bool.and_eq_true, beq_iff_eq] at hl
    refine returnTo_condition_motorInv hl.1 hs fun hb => ?_
    simp only [Bool.or_eq_false_iff] at hb
    simpa [hl.2] using hb.1
  case a1 =>
    simp only [lineOk, Bool.and_eq_true] at hl
    exact motorInv_goto (halfApplied_of_applyA1 hl.1 hl.2) (by rw [applyA1_callStack]; exact hs)
  case a2 =>
    obtain ⟨hp, he, hm⟩ := pinsAre_of_applyA2 hl
    exact motorInv_goto (by simp only [lineOk, hp, he, hm, Bool.and_self]) (by rw [applyA2_callStack]; exact hs)
  case a3 =>
    simp only [lineOk, Bool.and_eq_true] at hl
    exact recordLine_motorInv hl.1.1 hl.2 hs
  case g1 =>
    split
    · exact returnTo_plain_motorInv _ hl hs
    · rename_i he
      exact motorInv_goto (by simpa [lineOk, he] using hl) hs
  case g2 =>
    simp only [lineOk, Bool.and_eq_true] at hl
    exact motorInv_goto (restful_of_writeErr hl.1 (.inl rfl)) hs
  case k1 =>
    split
    · exact motorInv_goto hl hs
    · rename_i hd
      exact motorInv_goto (by simpa [lineOk, hd] using hl) hs
  case k1a => exact motorInv_goto hl hs
  case k1b =>
    simp only [lineOk, Bool.and_eq_true, bne_iff_ne] at hl
    split
    · exact motorInv_call (by simp [lineOk, hl.1, err_none_of_moving hl.1 hl.2]) hs
    · exact motorInv_goto hl.1 hs
  case k2 =>
    split
    · rename_i hd
      exact motorInv_goto (by simpa [lineOk, hd] using hl) hs
    · exact motorInv_goto hl hs
  case k2a =>
    simp only [lineOk, Bool.and_eq_true, beq_iff_eq] at hl
    split
    · have hd : s.dir ≠ .neutral := by rw [hl.2]; decide
      exact motorInv_call (by simp [lineOk, hl.1, err_none_of_moving hl.1 hd]) hs
    · exact motorInv_goto hl.1 hs
  case e1 =>
    simp only [lineOk, Bool.and_eq_true, beq_iff_eq] at hl
    exact motorInv_goto (by simp [lineOk, applyA1, hl.2]) hs
  case e2 =>
    simp only [lineOk, Bool.and_eq_true, beq_iff_eq] at hl
    exact motorInv_goto (by simp_all [lineOk, applyA2, pinsAre]) hs
  case e3 =>
    simp only [lineOk, Bool.and_eq_true, beq_iff_eq] at hl
    exact motorInv_goto (by simp_all [lineOk, pinsAre]) hs
  case e4 =>
    simp only [lineOk, Bool.and_eq_true, beq_iff_eq] at hl
    refine returnTo_plain_motorInv _ (restful_of_writeErr ?_ (.inr hl.1.2)) hs
    simp_all [restful, errorStops]
  case q1 =>
    exact returnTo_plain_motorInv _ (by rw [regularCheck_eq]; exact hl) (by rw [regularCheck_eq]; exact hs)
  case d0 => exact dispatchLine_motorInv hl hs
  case i1 =>
    split
    · exact ⟨hl, hs⟩
    · rw [← hf] at hl hs; exact ⟨hl, hs⟩
  case i3 => exact measureLine_motorInv hf hl hs
  case i4 => exact phaseLine_motorInv hl hs
  case s2 => exact admitLine_motorInv hl hs
  case k3 => exact limitLine_motorInv hl hs
  case c5 | a4 | m2 => exact returnTo_plain_motorInv _ hl hs
  case s1 | g3 =>
    split
    · exact returnTo_plain_motorInv _ hl hs
    · exact ⟨hl, hs⟩
  case b4 | c2 | c3 => split <;> exact ⟨hl, hs⟩
  all_goals exact ⟨hl, hs⟩

/-! ### The operations -/

/-- What an invariant over the operations needs: it speaks of the motor's cells, the foreground's place and the returned
value only, and the three operations that command the motor keep it. -/
structure KeptByOperations (P : State → Prop) : Prop where
  congr : ∀ {s t}, P s → motorView t = motorView s → t.fgAt = s.fgAt → t.callStack = s.callStack →
    t.ret = s.ret → P t
  setDirection : ∀ {s} d, P s → P (setDirection d s)
  clearError : ∀ {s}, s.err ≠ .endSwitchFault → P s → P { s with err := .none }
  checkStopConditions : ∀ {s}, P s → P (checkStopConditions s)

namespace KeptByOperations

variable {P : State → Prop} (hP : KeptByOperations P) {s t : State}

include hP

theorem goHome (hs : P s) (h : goHome s = .next t) : P t := by
  rcases goHome_eq_next h with ⟨-, rfl⟩ | ⟨he, -, rfl⟩ | ⟨he, -, -, rfl⟩
  · exact hs
  · exact hP.congr (hP.clearError he hs) rfl rfl rfl rfl
  · have hq : P (homingRequest s) := hP.congr (hP.clearError he hs) rfl rfl rfl rfl
    exact hP.setDirection .up hq

theorem dispatch {b : Button} (hs : P s) (h : dispatch b s = .next t) : P t := by
  rcases dispatch_eq_next h with ⟨-, -, h⟩ | ⟨-, d, rfl⟩ | ⟨d, rfl⟩ | rfl
  · exact hP.goHome hs h
  · exact hP.congr (hP.setDirection d hs) rfl rfl rfl rfl
  · exact hP.setDirection d hs
  · exact hs

theorem regularCheck (hs : P s) : P (regularCheck s) := by
  rw [regularCheck_eq]
  exact hP.congr hs rfl rfl rfl rfl

theorem loopTail (hs : P s) (h : loopTail s = .next t) : P t := by
  cases (loopTail_eq s).symm.trans h
  have hp : P (endSwitchPolled s) := hP.congr hs rfl rfl rfl rfl
  exact hP.congr (hP.checkStopConditions hp) rfl rfl rfl rfl

/-- An iteration keeps such an invariant that does not speak of the returned value, or waits in its read. -/
theorem loopIteration (hret : ∀ {s} v, P s → P (withRet v s)) (hs : P s) (h : execLoopIteration s = .next t) :
    P t ∨ ∃ u, P u ∧ t = readWaiting [.c2, .alone s.fgAt] u := by
  have hq : P (irSampled (Machine.regularCheck s)) := hP.congr (hP.regularCheck hs) rfl rfl rfl rfl
  rcases execLoopIteration_eq_next h with ⟨u, hu, rfl⟩ | ⟨-, -, v, u, hv, hu, rfl⟩ | rfl
  · exact .inl (hret .unit (hP.loopTail hq hu))
  · have hr : P (readReturned (irSampled (Machine.regularCheck s))) := hP.congr hq rfl rfl rfl rfl
    exact .inl (hret .unit (hP.loopTail (hP.dispatch hr hv) hu))
  · exact .inr ⟨_, hq, rfl⟩

/-- So does every operation but `enter_error`. -/
theorem exec {i : Instr} (hret : ∀ {s} v, P s → P (withRet v s)) (hi : ∀ k, i ≠ .enterError k)
    (hs : P s) (h : exec i s = .next t) :
    P t ∨ ∃ u conts, (conts = [.alone s.fgAt] ∨ conts = [.c2, .alone s.fgAt]) ∧ P u ∧ t = readWaiting conts u := by
  cases i with
  | enterError k => exact absurd rfl (hi k)
  | irOn | irOff | irUp | irDown | irSet | irUnknown | dispatch =>
    rw [exec_of_pressedButton rfl] at h
    obtain ⟨u, hu, rfl⟩ := returnsUnit_eq_next h
    exact .inl (hret .unit (hP.dispatch hs hu))
  | goHome =>
    obtain ⟨u, hu, rfl⟩ := returnsUnit_eq_next h
    exact .inl (hret .unit (hP.goHome hs hu))
  | setDirection d => cases h; exact .inl (hret .unit (hP.setDirection d hs))
  | checkStopConditions => cases h; exact .inl (hret .unit (hP.checkStopConditions hs))
  | regularCheck => cases h; exact .inl (hret .unit (hP.regularCheck hs))
  | irReadFrame =>
    rcases execIrReadFrame_eq_next h with ⟨v, rfl⟩ | rfl
    · have hr : P (readReturned s) := hP.congr hs rfl rfl rfl rfl
      exact .inl (hret v hr)
    · exact .inr ⟨s, _, .inl rfl, hs, rfl⟩
  | loopIteration => exact (hP.loopIteration hret hs h).imp_right fun ⟨u, hu, ht⟩ => ⟨u, _, .inr rfl, hu, ht⟩
  | onEndswitchTriggered =>
    obtain ⟨u, hu, rfl⟩ := returnsUnit_eq_next h
    cases (onEndswitchTriggered_eq s).symm.trans hu
    exact .inl (hret .unit (by split <;> exact hP.congr hs rfl rfl rfl rfl))
  | onRotationTick =>
    obtain ⟨_, _, _, _, _, rfl, -⟩ := onRotationTick_handlerRun h
    exact .inl (hP.congr hs rfl rfl rfl rfl)
  | onComparatorEdge level =>
    obtain ⟨_, _, _, _, _, rfl, -⟩ := onComparatorEdge_handlerRun h
    exact .inl (hP.congr hs rfl rfl rfl rfl)
  | ticksFor =>
    change execTicksFor s = _ at h
    unfold execTicksFor at h
    split at h <;> cases h
    exact .inl (hret _ hs)
  | timerStep => cases h; exact .inl (hP.congr hs rfl rfl rfl rfl)
  | upStopCondition => cases h; exact .inl (hret _ (hP.congr hs rfl rfl rfl rfl))
  | trigger => cases h; exact .inl (hret _ (hP.congr hs rfl rfl rfl rfl))
  | now | wrapSub | downStopCondition | error | isActive | irDecode | decodeButton | ledValue =>
    cases h; exact .inl (hret _ hs)

end KeptByOperations

/-- The motor invariant between operations. -/
structure Resting (s : State) : Prop where
  restful : restful (motorView s) = true
  loopLine : isLoopLine s.fgAt = true
  callStack : s.callStack = []

theorem Resting.motorInv {s : State} (h : Resting s) : MotorInv s :=
  motorInv_of_resumable h.restful (by rw [h.callStack]; rfl) (isLoopLine_resumable h.loopLine)

theorem lineOk_of_isLoopLine {v : MotorView} {l : Line} (h : isLoopLine l = true) : lineOk v l = restful v := by
  cases l <;> first | rfl | cases h

theorem resting_of_motorInv {s : State} (h : MotorInv s) (hb : betweenOperations s = true) : Resting s := by
  rw [betweenOperations, Bool.and_eq_true, List.isEmpty_iff] at hb
  exact ⟨lineOk_of_isLoopLine hb.2 ▸ h.1, hb.2, hb.1⟩

/-- R85: an applied direction is the one the pins show; with no error it may be any. -/
theorem restful_applyDirection {d : Direction} {s : State} (h : d = .neutral ∨ s.err = .none) :
    restful (motorView (applyDirection d s)) = true := by
  cases d with
  | neutral => simp [applyDirection_neutral, restful, pinsAre, errorStops]
  | up => simpa [applyDirection_up, restful, pinsAre, errorStops] using h
  | down => simpa [applyDirection_down, restful, pinsAre, errorStops] using h

theorem restful_takeFault (k : FaultKind) (s : State) : restful (motorView (takeFault k s)) = true :=
  restful_of_writeErr (restful_applyDirection (.inl rfl)) (.inr rfl)

/-- R83: `set_direction` energizes a pin only with no error present. -/
theorem restful_setDirection {d : Direction} {s : State} (h : restful (motorView s) = true) :
    restful (motorView (setDirection d s)) = true := by
  rcases setDirection_cases d s with ⟨hs, -⟩ | ⟨-, -, hs⟩ | ⟨-, -, -, hs⟩ | ⟨-, -, hc, hs⟩ | ⟨-, -, -, hs⟩ |
    ⟨-, -, hc, hs⟩ <;> rw [hs]
  · exact h
  · exact restful_applyDirection (.inl rfl)
  · exact h
  · have he : s.err = .none := by
      by_contra he
      exact Bool.eq_false_iff.1 hc ((upStopCondition_fst_eq_true_iff s).2 (.inl he))
    exact restful_applyDirection (.inr he)
  · exact h
  · have he : s.err = .none := by
      by_contra he
      exact Bool.eq_false_iff.1 hc ((downStopCondition_eq_true_iff s).2 (.inl he))
    exact restful_applyDirection (.inr he)

/-- R89: each step of the check leaves the motor as it is, or enters a fault, or stops it. -/
theorem restful_checkStopConditions {s : State} (h : restful (motorView s) = true) :
    restful (motorView (checkStopConditions s)) = true := by
  have h1 : restful (motorView (checkStall s)) = true := by
    unfold checkStall
    split_ifs
    · exact h
    · exact restful_takeFault _ _
    · exact h
  have h2 : restful (motorView (checkOverrun (checkStall s))) = true := by
    unfold checkOverrun
    split_ifs
    · exact restful_takeFault _ _
    · exact h1
    · exact h1
  unfold checkStopConditions checkLimits
  split
  · dsimp only
    split
    · exact restful_applyDirection (.inl rfl)
    · exact h2
  · split
    · exact restful_applyDirection (.inl rfl)
    · exact h2
  · exact h2

theorem restingKept : KeptByOperations Resting where
  congr := fun h hv hf hc _ => ⟨hv ▸ h.restful, hf ▸ h.loopLine, hc ▸ h.callStack⟩
  setDirection := fun {s} d h => by
    have hr := restful_setDirection (d := d) h.restful
    obtain ⟨_, _, _, _, _, _, hs⟩ := setDirection_frame d s
    rw [hs] at hr ⊢
    exact ⟨hr, h.loopLine, h.callStack⟩
  clearError := fun {s} _ h => ⟨restful_of_writeErr h.restful (.inl rfl), h.loopLine, h.callStack⟩
  checkStopConditions := fun {s} h => by
    have hr := restful_checkStopConditions h.restful
    obtain ⟨_, _, _, _, _, _, hs⟩ := checkStopConditions_frame s
    rw [hs] at hr ⊢
    exact ⟨hr, h.loopLine, h.callStack⟩

/-- A read that waits stands at I1 over a stack it may have. -/
theorem readWaiting_motorInv {s u : State} {conts : List Cont} (hu : Resting u) (hl : isLoopLine s.fgAt = true)
    (hc : conts = [.alone s.fgAt] ∨ conts = [.c2, .alone s.fgAt]) : MotorInv (readWaiting conts u) := by
  have hst : readStack (conts ++ u.callStack) = true := by
    rw [hu.callStack]
    rcases hc with rfl | rfl <;> simp [readStack, plainStack, hl]
  exact ⟨hu.restful, hst⟩

/-- An operation of another context than the foreground's touches neither the motor nor the foreground's place. -/
theorem exec_outside_foreground {i : Instr} {s t : State} (hi : contextOf i ≠ .foreground)
    (h : exec i s = .next t) : motorView t = motorView s ∧ t.fgAt = s.fgAt ∧ t.callStack = s.callStack := by
  cases i with
  | onRotationTick => obtain ⟨_, _, _, _, _, rfl, -⟩ := onRotationTick_handlerRun h; exact ⟨rfl, rfl, rfl⟩
  | onComparatorEdge level =>
    obtain ⟨_, _, _, _, _, rfl, -⟩ := onComparatorEdge_handlerRun h; exact ⟨rfl, rfl, rfl⟩
  | ticksFor =>
    change execTicksFor s = _ at h
    unfold execTicksFor at h
    split at h <;> cases h
    exact ⟨rfl, rfl, rfl⟩
  | now | timerStep => cases h; exact ⟨rfl, rfl, rfl⟩
  | _ => exact absurd rfl hi

theorem motorInv_congr {s t : State} (h : MotorInv s) (hv : motorView t = motorView s) (hf : t.fgAt = s.fgAt)
    (hc : t.callStack = s.callStack) : MotorInv t := by
  unfold MotorInv
  rw [hv, hf, hc]
  exact h

theorem exec_motorInv {i : Instr} {s t : State} (hm : MotorInv s) (hc : canRun i s = true)
    (h : exec i s = .next t) : MotorInv t := by
  by_cases hi : contextOf i = .foreground
  · have hr : Resting s := resting_of_motorInv hm (by simpa [canRun, hi] using hc)
    by_cases hk : ∀ k, i ≠ .enterError k
    · rcases restingKept.exec (fun _ h => ⟨h.restful, h.loopLine, h.callStack⟩) hk hr h with
        ht | ⟨u, conts, hconts, hu, rfl⟩
      · exact ht.motorInv
      · exact readWaiting_motorInv hu hr.loopLine hconts
    · obtain ⟨k, rfl⟩ := not_forall_not.1 hk
      cases h
      exact Resting.motorInv ⟨restful_takeFault k s, hr.loopLine, hr.callStack⟩
  · obtain ⟨hv, hf, hst⟩ := exec_outside_foreground hi h
    exact motorInv_congr hm hv hf hst

theorem motorInv_resetWith (cfg : Config) (dr : ResetDraws) : MotorInv (State.resetWith cfg dr) := ⟨rfl, rfl⟩

theorem runMove_motorInv {m : Move} {s t : State} (hm : MotorInv s) (h : runMove m s = .next t) : MotorInv t := by
  cases m with
  | foreground => exact fgLine_motorInv hm h
  | compEdge level =>
    change deliverEdge level s = _ at h
    unfold deliverEdge at h
    split at h
    · obtain ⟨_, _, _, _, _, rfl, -⟩ := onComparatorEdge_handlerRun h
      exact motorInv_congr hm rfl rfl rfl
    · cases h; exact hm
  | reset => cases h; exact motorInv_resetWith s.cfg (Config.freeReset s.draws)
  | timer | irLine | endSwitch => cases h; exact motorInv_congr hm rfl rfl rfl

/-- Settles O55: each agent's step and each operation run alone keeps the invariant. -/
theorem everyStepKeepsTheMotorInvariant : Obligations.EveryStepKeepsTheMotorInvariant := by
  intro s t hm h
  have script : ∀ {st n}, MotorInv { s with stimuli := st, draws := n } := motorInv_congr hm rfl rfl rfl
  obtain ⟨-, ⟨-, h⟩ | ⟨m, rest, -, h⟩ | ⟨l, m, more, rest, st, -, h⟩ | ⟨bytes, i, rest, -, -, hc, h⟩ |
    ⟨o, rest, -, rfl⟩ | ⟨st, u, hl, st', rfl⟩⟩ := step_cases h
  · exact runMove_motorInv script h
  · exact runMove_motorInv script h
  · exact runMove_motorInv script h
  · exact exec_motorInv (s := { s with stimuli := rest }) script hc h
  · obtain ⟨_, _, _, _, _, ho⟩ := writeOperand_frame o { s with stimuli := rest }
    rw [ho]
    exact motorInv_congr hm rfl rfl rfl
  · exact motorInv_congr (fgLine_motorInv script hl) rfl rfl rfl

/-- Settles O56: after reset the motor is off in Neutral with no error, no frame is in progress, and `pos` is the
configuration's. -/
theorem invariantsHoldAtReset : Obligations.InvariantsHoldAtReset := by
  have hr : ∀ cfg dr, MotorInv (State.resetWith cfg dr) ∧ FrameInv (State.resetWith cfg dr) ∧
      (configOk cfg = true → PosInv (State.resetWith cfg dr)) :=
    fun cfg dr => ⟨motorInv_resetWith cfg dr, Nat.zero_le _, posReset_posInRange⟩
  obtain ⟨hm, hf, hp⟩ := hr Config.reference ResetDraws.zero
  exact ⟨hr, hm, hp (by decide), hf⟩

/-! ### What the invariant excludes -/

theorem not_both_of_pinsAre {d : Direction} {v : MotorView} (h : pinsAre d v = true) :
    ¬ (v.motorUp = true ∧ v.motorDown = true) := by
  rintro ⟨hu, hd⟩
  cases d <;> simp [pinsAre, hu, hd] at h

theorem not_both_of_restful {v : MotorView} (h : restful v = true) : ¬ (v.motorUp = true ∧ v.motorDown = true) :=
  not_both_of_pinsAre (Bool.and_eq_true _ _ ▸ h).1

/-- R33: at no line are both pins on. -/
theorem not_both_of_lineOk {l : Line} {v : MotorView} (h : lineOk v l = true) :
    ¬ (v.motorUp = true ∧ v.motorDown = true) := by
  cases l
  case a2 d =>
    rintro ⟨hu, hd⟩
    cases d <;> simp [lineOk, halfApplied, hu, hd] at h
  case e2 =>
    rintro ⟨hu, hd⟩
    simp [lineOk, hu] at h
  all_goals simp only [lineOk, Bool.and_eq_true] at h
  case a3 => exact not_both_of_pinsAre h.1.1
  case e3 => exact not_both_of_pinsAre h.1
  case e4 => exact not_both_of_pinsAre h.1.1
  case b1 | b2 | s3 | u2 | u3 | w2 | a1 | g2 | k1a | k1b | k2a | e1 => exact not_both_of_restful h.1
  all_goals exact not_both_of_restful h

/-- R21: at every line an error goes with Neutral. -/
theorem dir_neutral_of_error {s : State} (hm : MotorInv s) (he : s.err ≠ .none) : s.dir = .neutral := by
  have hrest : restful (motorView s) = true → s.dir = .neutral := fun hr => by
    by_contra hd
    exact he (err_none_of_moving hr hd)
  have hstop : errorStops (motorView s) = true → s.dir = .neutral := fun h => by simpa [errorStops, he] using h
  obtain ⟨hl, -⟩ := hm
  generalize s.fgAt = l at hl
  cases l
  case a2 d => cases d <;> simp [lineOk, halfApplied, he] at hl; exact hstop hl.2
  all_goals simp only [lineOk, Bool.and_eq_true] at hl
  case a3 => exact hstop hl.1.2
  case e1 | e2 | e3 | e4 => simp [he] at hl
  case b1 | b2 | s3 | u2 | u3 | w2 | a1 | g2 | k1a | k1b | k2a => exact hrest hl.1
  all_goals exact hrest hl

/-- Settles O57: no line's part of the invariant allows both pins, and at the loop's lines the whole of `restful` holds. -/
theorem motorInvariantExcludesBothPins : Obligations.MotorInvariantExcludesBothPins := by
  intro s hm
  refine ⟨not_both_of_lineOk hm.1, fun hl => ?_⟩
  have hr := lineOk_of_isLoopLine hl ▸ hm.1
  have hp : pinsAre s.dir (motorView s) = true := (Bool.and_eq_true _ _ ▸ hr).1
  refine ⟨?_, ?_, dir_neutral_of_error hm⟩ <;> cases hd : s.dir <;> simp_all [pinsAre]

/-! ### The permanent fault -/

@[simp] theorem opReturn_err (v : Value) (s : State) : (opReturn v s).err = s.err := by
  obtain ⟨l, st, r, h⟩ := opReturn_frame v s; rw [h]

theorem dispatchLine_err (b : Button) (s : State) : (dispatchLine b s).err = s.err := by
  cases b with
  | on => unfold dispatchLine; dsimp only; split <;> rfl
  | off => rfl
  | up => unfold dispatchLine; dsimp only; split <;> rfl
  | down => unfold dispatchLine; dsimp only; split <;> rfl
  | set => exact opReturn_err _ s
  | unknown => rfl

/-- R142: of the foreground's lines only G2 and E4 write the error. -/
theorem fgLine_err {s t : State} (h : fgLine s = .next t) (hg : s.fgAt ≠ .g2) (he : ∀ k, s.fgAt ≠ .e4 k) :
    t.err = s.err := by
  cases hf : s.fgAt <;> simp only [fgLine, hf] at h
  case g2 => exact absurd hf hg
  case e4 k => exact absurd hf (he k)
  case g4 =>
    obtain ⟨u, hu, ht⟩ := andThen_eq_next h
    obtain ⟨-, rfl⟩ := writePos_eq_next hu
    cases ht; rfl
  case n1 =>
    rw [onEndswitchTriggered_eq] at h
    cases h
    split <;> simp
  all_goals cases h
  case q1 => rw [opReturn_err, regularCheck_eq]
  case d0 => exact dispatchLine_err _ s
  case i3 => unfold measureLine; dsimp only; split_ifs <;> rfl
  case i4 => unfold phaseLine; split <;> simp
  case s2 d => cases d <;> rfl
  case a1 d => cases d <;> rfl
  case a2 d => cases d <;> rfl
  case a3 d => cases d <;> simp [recordLine]
  case k3 => unfold limitLine; split <;> simp
  case s1 | g1 | g3 => split <;> simp
  case b4 | c2 | c3 | k1 | k1b | k2 | k2a | i1 => split <;> rfl
  all_goals simp [driveResetOutputs, driveLed, applyA1, applyA2]

/-- R142: under the invariant neither of the two lines is reached with EndSwitchFault present. -/
theorem fgLine_permanentFault {s t : State} (h : fgLine s = .next t) (hm : MotorInv s)
    (he : s.err = .endSwitchFault) : t.err = .endSwitchFault := by
  rw [← he]
  obtain ⟨hl, -⟩ := hm
  refine fgLine_err h (fun hf => ?_) (fun k hf => ?_)
  · simp [hf, lineOk, he] at hl
  · simp [hf, lineOk, he] at hl

/-- R89: the check does nothing in Neutral. -/
theorem checkStopConditions_of_neutral {s : State} (h : s.dir = .neutral) : checkStopConditions s = s := by
  have h1 : checkStall s = s := if_pos h
  have h2 : checkOverrun s = s := if_neg (by rw [h]; decide)
  rw [checkStopConditions, h1, h2, checkLimits, h]

/-- The permanent fault state (R142). -/
def PermanentFault (s : State) : Prop := s.err = .endSwitchFault ∧ s.dir = .neutral

/-- R83, R86, R89, R142: no operation that commands the motor leaves the permanent fault state. -/
theorem permanentFaultKept : KeptByOperations PermanentFault where
  congr := fun h hv _ _ _ => ⟨(congrArg MotorView.err hv).trans h.1, (congrArg MotorView.dir hv).trans h.2⟩
  setDirection := fun {s} d h => by
    have he : s.err ≠ .none := by rw [h.1]; decide
    cases d with
    | neutral => rw [setDirection_of_dir_eq h.2]; exact h
    | up =>
      have hd : s.dir ≠ .up := by rw [h.2]; decide
      rw [setDirection_up_of_stop hd ((upStopCondition_fst_eq_true_iff s).2 (.inl he))]
      exact h
    | down =>
      rw [setDirection_down_of_stop ((downStopCondition_eq_true_iff s).2 (.inl he))]
      exact h
  clearError := fun hne h => absurd h.1 hne
  checkStopConditions := fun h => by rw [checkStopConditions_of_neutral h.2]; exact h

theorem runMove_permanentFault {m : Move} {s t : State} (h : runMove m s = .next t) (hm : MotorInv s)
    (he : s.err = .endSwitchFault) (hr : m ≠ .reset) : t.err = .endSwitchFault := by
  cases m with
  | reset => exact absurd rfl hr
  | foreground => exact fgLine_permanentFault h hm he
  | compEdge level =>
    change deliverEdge level s = _ at h
    unfold deliverEdge at h
    split at h
    · obtain ⟨_, _, _, _, _, rfl, -⟩ := onComparatorEdge_handlerRun h
      exact he
    · cases h; exact he
  | timer | irLine | endSwitch => cases h; exact he

/-- Settles O59: no move but a reset and no operation but `enter_error` clears the fault, and the invariant, which
every step keeps, ties it to Neutral. -/
theorem endSwitchFaultIsPermanent : Obligations.EndSwitchFaultIsPermanent := by
  intro s t hm he h hreset hfree hiter henter
  have script : ∀ {st n}, MotorInv { s with stimuli := st, draws := n } := motorInv_congr hm rfl rfl rfl
  have herr : t.err = .endSwitchFault := by
    obtain ⟨-, ⟨hs, h⟩ | ⟨m, rest, hs, h⟩ | ⟨l, m, more, rest, st, hs, h⟩ | ⟨bytes, i, rest, hs, hd, -, h⟩ |
      ⟨o, rest, -, rfl⟩ | ⟨st, u, hl, st', rfl⟩⟩ := step_cases h
    · exact runMove_permanentFault h script he (hfree hs)
    · exact runMove_permanentFault h script he (fun hm => hreset rest (hm ▸ hs))
    · refine runMove_permanentFault h script he (fun hm => ?_)
      subst hm
      exact hs.elim (hiter l more rest).1 (hiter l more rest).2
    · have hp : PermanentFault { s with stimuli := rest } :=
        ⟨he, dir_neutral_of_error hm (by rw [he]; decide)⟩
      have hi : ∀ k, i ≠ .enterError k := fun k hk => henter k bytes rest hs (hk ▸ hd)
      rcases permanentFaultKept.exec (fun _ h => h) hi hp h with ht | ⟨u, conts, -, hu, rfl⟩
      · exact ht.1
      · exact hu.1
    · exact (writeOperand_err o _).trans he
    · have hu := fgLine_permanentFault hl script he
      exact hu
  exact ⟨herr, dir_neutral_of_error (everyStepKeepsTheMotorInvariant s t hm h) (by rw [herr]; decide)⟩

end Sys2Proof.Machine
end

section
namespace Sys2Proof.Machine
open Safety

/-! ## What a step is, by the head of the script (R7, R13, R70, R148) -/

section Head
variable {s : State} {rest : List Stimulus} (hc : configOk s.cfg = true)
include hc

theorem step_of_move {m : Move} (hs : s.stimuli = .move m :: rest) :
    step s = runMove m { s with stimuli := rest } := by
  simp only [step, hc, hs, if_true]

theorem step_of_code {bytes : List Byte} {i : Instr} (hs : s.stimuli = .code bytes :: rest)
    (hd : decode bytes = .ok i) :
    step s = if canRun i s = true then exec i { s with stimuli := rest } else fgLine s := by
  simp only [step, hc, hs, hd, if_true]

theorem step_of_operand {o : Operand} (hs : s.stimuli = .operand o :: rest) :
    step s = .next (writeOperand o { s with stimuli := rest }) := by
  simp only [step, hc, hs, if_true]

theorem step_of_iter {inside : List (Label × Move)} (hs : s.stimuli = .iter inside :: rest) :
    step s = if atIterationStart s = true then iterStep inside rest s else fgLine s := by
  simp only [step, hc, hs, if_true]

theorem step_of_iterating {inside : List (Label × Move)} (hs : s.stimuli = .iterating inside :: rest) :
    step s = iterStep inside rest s := by
  simp only [step, hc, hs, if_true]

end Head

theorem betweenOperations_iff (s : State) :
    betweenOperations s = true ↔ s.callStack = [] ∧ isLoopLine s.fgAt = true := by
  rw [betweenOperations, Bool.and_eq_true, List.isEmpty_iff]

theorem canRun_iff (i : Instr) (s : State) :
    canRun i s = true ↔ contextOf i ≠ .foreground ∨ (s.callStack = [] ∧ isLoopLine s.fgAt = true) := by
  rw [canRun, Bool.or_eq_true, betweenOperations_iff, Bool.not_eq_true', decide_eq_false_iff_not]

theorem atIterationStart_iff (s : State) : atIterationStart s = true ↔ s.callStack = [] ∧ s.fgAt = .c1 := by
  rw [atIterationStart, Bool.and_eq_true, List.isEmpty_iff, decide_eq_true_eq]

/-- Settles O4: the head of the script is a code that can run. -/
theorem stepRunsDecodedOperation : Obligations.StepRunsDecodedOperation := by
  intro s bytes rest i hc hs hd hrun
  rw [step_of_code hc hs hd, if_pos ((canRun_iff i s).2 hrun)]

/-- Settles O5: the head of the script is a code, or an `ITER`, that cannot run yet. -/
theorem busyForegroundFinishesFirst : Obligations.BusyForegroundFinishesFirst := by
  refine ⟨fun s bytes rest i hc hs hd hf hbusy => ?_, fun s inside rest hc hs hbusy => ?_⟩
  · rw [step_of_code hc hs hd, if_neg]
    rw [canRun_iff]
    rintro (h | ⟨hst, hl⟩)
    · exact h hf
    · exact hbusy.elim (· hst) fun h => Bool.false_ne_true (h.symm.trans hl)
  · rw [step_of_iter hc hs, if_neg]
    rw [atIterationStart_iff]
    rintro ⟨hst, hl⟩
    exact hbusy.elim (· hst) (· hl)

/-- Settles O6: a well-formed configuration meets each clause of R7. -/
theorem illFormedConfigurationIsRefused : Obligations.IllFormedConfigurationIsRefused := by
  intro s stall mono bit eof hstall hmono hbit heof hbad
  have hc : ¬ configOk s.cfg = true := by
    intro h
    simp only [configOk, thresholdsOk, Bool.and_eq_true, decide_eq_true_eq] at h
    subst hstall hmono hbit heof
    obtain ⟨⟨⟨⟨⟨⟨⟨⟨h0, h1⟩, h2⟩, h3⟩, h4⟩, h5⟩, h6⟩, h7⟩, -⟩ := h
    exact hbad ⟨h0, h1, h2, h3, h4, h5, h6, h7⟩
  exact if_neg hc

/-- R70: an `ITER` in progress takes a foreground line where its next move is the foreground's, or names another line. -/
theorem iterStep_eq_iterLine {inside more : List (Label × Move)} {s : State} (rest : List Stimulus)
    (h : inside = (labelOf s.fgAt, .foreground) :: more ∨
      (inside = more ∧ ∀ lm ∈ inside.head?, lm.1 ≠ labelOf s.fgAt)) :
    iterStep inside rest s = iterLine rest { s with stimuli := .iterating more :: rest } := by
  rcases h with rfl | ⟨rfl, hne⟩
  · simp only [iterStep, if_true]
  · cases inside with
    | nil => rfl
    | cons lm inside => exact if_neg (hne lm rfl).symm

/-- An `ITER` in progress leaves its own script entry, whatever the script was. -/
theorem iterStep_script (inside : List (Label × Move)) (rest st : List Stimulus) (s : State) :
    iterStep inside rest { s with stimuli := st } = iterStep inside rest s := by
  cases inside <;> rfl

/-- R70: the move an `ITER` states for the line the foreground is at is made before the line. -/
theorem iterStep_eq_runMove {m : Move} {more : List (Label × Move)} {s : State} (rest : List Stimulus)
    (hm : m ≠ .foreground) :
    iterStep ((labelOf s.fgAt, m) :: more) rest s = runMove m { s with stimuli := .iterating more :: rest } := by
  simp only [iterStep, hm, if_true, if_false]

/-- Settles O8: each head of the script by its own equation. -/
theorem timerAndInputMoves : Obligations.TimerAndInputMoves := by
  intro s rest hc
  refine ⟨fun hs => step_of_move hc hs, fun _ _ hs => step_of_move hc hs, fun _ _ hs => step_of_move hc hs,
    fun level hs hirq => ?_, fun level hs hirq => ?_, fun hs => step_of_move hc hs,
    fun _ _ hs => step_of_operand hc hs, fun _ hs => step_of_operand hc hs, fun _ hs => step_of_operand hc hs,
    fun _ hs => step_of_operand hc hs, fun inside hs hst hl => ?_, fun l m more hs hl hm => ?_,
    fun inside more hs hin => ?_⟩
  · exact (step_of_move hc hs).trans (if_neg (Bool.eq_false_iff.1 hirq))
  · exact (step_of_move hc hs).trans (if_pos hirq)
  · rw [step_of_iter hc hs, if_pos ((atIterationStart_iff s).2 ⟨hst, hl⟩),
      step_of_iterating (s := { s with stimuli := .iterating inside :: rest }) hc rfl]
    exact (iterStep_script inside rest _ s).symm
  · subst hl
    rw [step_of_iterating hc hs, iterStep_eq_runMove rest hm]
  · rw [step_of_iterating hc hs, iterStep_eq_iterLine rest hin, iterLine]
    refine ⟨fun t ht => ?_, fun r hr => ?_⟩
    · simp only [ht, andThen_next, atIterationStart_iff]
    · rw [hr, andThen_refused]

/-! ## Reset (R34, R154) -/

/-- Settles O9: the reset values are those of `resetWith`, and State.reset is one with a well-formed configuration. -/
theorem resetLeavesTheStatedValues : Obligations.ResetLeavesTheStatedValues :=
  ⟨fun cfg dr => ⟨State.resetWith cfg dr, rfl, rfl, rfl, rfl, rfl, rfl, rfl, rfl, rfl, rfl, rfl, rfl, rfl, rfl, rfl⟩,
    Config.reference, ResetDraws.zero, rfl, by decide⟩

/-- Settles O10: the move of the head of the script is `powerOn`. -/
theorem resetMoveLeavesTheStatedValues : Obligations.ResetMoveLeavesTheStatedValues := by
  intro s rest hc hs
  exact ⟨_, step_of_move hc hs, rfl, rfl, rfl, rfl, rfl, rfl, rfl, rfl, rfl, rfl, rfl, rfl, rfl, rfl, rfl, rfl, rfl,
    rfl, rfl⟩

/-! ## The clock (R72 to R78) -/

/-- Settles O12: by the operation's equation. -/
theorem nowReturnsTheCounter : Obligations.NowReturnsTheCounter := fun _ => rfl

/-- Settles O13: the counter is a 16-bit word. -/
theorem timerStepAddsOneModuloWrap : Obligations.TimerStepAddsOneModuloWrap :=
  fun s => ⟨s.tick + 1#16, BitVec.toNat_add _ _, rfl⟩

/-- Settles O14: subtraction of 16-bit words is subtraction modulo 65536. -/
theorem wrapSubResult : Obligations.WrapSubResult := by
  intro s
  refine ⟨s.argLater - s.argEarlier, ?_, rfl⟩
  have := s.argLater.isLt
  have := s.argEarlier.isLt
  rw [BitVec.toNat_sub]
  omega

/-- R73: `k` timer steps add `k` to the counter. -/
theorem timerStep_iterate_tick (k : Nat) (s : State) : (timerStep^[k] s).tick = s.tick + BitVec.ofNat 16 k := by
  induction k generalizing s with
  | zero => simp
  | succ k ih =>
    rw [Function.iterate_succ_apply, ih, timerStep_tick, BitVec.add_assoc, ← BitVec.ofNat_add, Nat.add_comm 1 k]

/-- Settles O15: the difference of the readings is the count of steps as a 16-bit word. -/
theorem wrapSubCountsTimerSteps : Obligations.WrapSubCountsTimerSteps := by
  intro s k
  rw [timerStep_iterate_tick, wrapSub, BitVec.add_comm, BitVec.add_sub_cancel, BitVec.toNat_ofNat]

/-- Settles O16: the two cases of the conversion. -/
theorem ticksForFloorsOrRefuses : Obligations.TicksForFloorsOrRefuses := by
  intro s q hq
  have heq : exec .ticksFor s = execTicksFor s := rfl
  have hraw : ticksRaw s.cfg s.argMs = q := hq.symm
  rw [heq, execTicksFor, ticksFor, hraw]
  refine ⟨fun hlt => ⟨BitVec.ofNat 16 q, Nat.mod_eq_of_lt (by omega), ?_⟩, fun hge => ?_⟩
  · rw [if_pos (show q < halfWrap from hlt)]; rfl
  · rw [if_neg (show ¬ q < halfWrap from Nat.not_lt.2 hge)]

/-! ## The Screen (R81 to R91) -/

/-- Settles O18: the three tests, and the sample of the switch. -/
theorem upStopConditionResult : Obligations.UpStopConditionResult := by
  intro s
  rw [← errorPresent_eq_decide]
  rfl

/-- Settles O20: no stop condition holds, and the direction is applied. -/
theorem setDirectionAdmitted : Obligations.SetDirectionAdmitted := by
  intro s
  refine ⟨fun hd he hp hsw => ?_, fun hd he hp => ?_, fun hd => ?_⟩ <;> rw [exec_setDirection]
  · rw [setDirection_up_of_clear hd (upStopCondition_fst_eq_false he hp hsw), applyDirection_up]
    rfl
  · rw [setDirection_down_of_clear hd (downStopCondition_eq_false he hp), applyDirection_down]
  · rw [setDirection_neutral, if_neg hd, if_neg hd]

/-- Settles O21: a stop condition holds, and nothing is applied. -/
theorem setDirectionRefusedChangesNothing : Obligations.SetDirectionRefusedChangesNothing := by
  intro s
  refine ⟨fun hd hstop => ?_, fun _ hstop => ?_⟩ <;> rw [exec_setDirection]
  · rw [setDirection_up_of_stop hd ((upStopCondition_fst_eq_true_iff s).2 hstop)]
  · rw [setDirection_down_of_stop ((downStopCondition_eq_true_iff s).2 hstop)]

theorem countTick_of_neutral {s : State} (h : s.dir = .neutral) : countTick s = .next s := by
  simp only [countTick, h]

theorem countTick_of_down {s : State} (h : s.dir = .down) : countTick s = writePos (s.pos + 1) s := by
  simp only [countTick, h]

theorem countTick_of_up {s : State} (h : s.dir = .up) : countTick s = writePos (s.pos - 1) s := by
  simp only [countTick, h]

/-- R22, R87: a tick is refused where its count is. -/
theorem onRotationTick_refused {s : State} {r : Refusal} (h : countTick s = .refused r) :
    onRotationTick s = .refused r := by
  rw [onRotationTick, h, andThen_refused]

/-- R87: a tick counts, and stamps. -/
theorem onRotationTick_next {s t : State} (h : countTick s = .next t) : onRotationTick s = .next (stampLtt t) := by
  rw [onRotationTick, h, andThen_next]

theorem onRotationTick_of_neutral {s : State} (h : s.dir = .neutral) :
    onRotationTick s = .next { s with ltt := s.tick } :=
  onRotationTick_next (countTick_of_neutral h)

theorem onRotationTick_of_down {s : State} (h : s.dir = .down) (hr : posInRange s.cfg (s.pos + 1) = true) :
    onRotationTick s = .next { s with pos := s.pos + 1, ltt := s.tick } :=
  onRotationTick_next ((countTick_of_down h).trans (writePos_in_range hr))

theorem onRotationTick_of_up {s : State} (h : s.dir = .up) (hr : posInRange s.cfg (s.pos - 1) = true) :
    onRotationTick s = .next { s with pos := s.pos - 1, ltt := s.tick } :=
  onRotationTick_next ((countTick_of_up h).trans (writePos_in_range hr))

/-- Settles O24: one equation per direction. -/
theorem rotationTickResult : Obligations.RotationTickResult :=
  fun _ => ⟨onRotationTick_of_neutral, onRotationTick_of_down, onRotationTick_of_up⟩

/-- R121: an event at the last forwarded level only toggles the bias. -/
theorem onComparatorEdge_same {level : Bool} {s : State} (h : level = s.lastLevel) :
    onComparatorEdge level s = .next { s with biasReg := !s.biasReg, bias := !s.biasReg } :=
  if_pos h

/-- R120: a genuine edge toggles the bias and is forwarded as a tick. -/
theorem onComparatorEdge_genuine {level : Bool} {s : State} (h : level ≠ s.lastLevel) :
    onComparatorEdge level s =
      onRotationTick { s with biasReg := !s.biasReg, bias := !s.biasReg, lastLevel := level } :=
  if_neg h

/-- Settles O44: the level decides, and then the tick's direction. -/
theorem comparatorEdgeResult : Obligations.ComparatorEdgeResult := by
  refine fun s level => ⟨fun hl => onComparatorEdge_same hl, fun hl hd => ?_, fun hl hd hr => ?_, fun hl hd hr => ?_⟩
  · exact (onComparatorEdge_genuine hl).trans (onRotationTick_of_neutral hd)
  · exact (onComparatorEdge_genuine hl).trans (onRotationTick_of_down hd hr)
  · exact (onComparatorEdge_genuine hl).trans (onRotationTick_of_up hd hr)

theorem posInRange_eq_false_of_ge {cfg : Config} {p : Int} (h : 2 ^ (cfg.posWidth - 1) ≤ p) :
    posInRange cfg p = false := by
  rw [posInRange, decide_eq_false (Int.not_lt.2 h), Bool.and_false]

theorem posInRange_eq_false_of_lt {cfg : Config} {p : Int} (h : p < -(2 ^ (cfg.posWidth - 1))) :
    posInRange cfg p = false := by
  rw [posInRange, decide_eq_false (Int.not_le.2 h), Bool.false_and]

theorem onRotationTick_past_top {s : State} (hd : s.dir = .down) (hp : 2 ^ (s.cfg.posWidth - 1) ≤ s.pos + 1) :
    onRotationTick s = .refused .posOutOfRange :=
  onRotationTick_refused ((countTick_of_down hd).trans (writePos_out_of_range (posInRange_eq_false_of_ge hp)))

theorem onRotationTick_past_bottom {s : State} (hd : s.dir = .up) (hp : s.pos - 1 < -(2 ^ (s.cfg.posWidth - 1))) :
    onRotationTick s = .refused .posOutOfRange :=
  onRotationTick_refused ((countTick_of_up hd).trans (writePos_out_of_range (posInRange_eq_false_of_lt hp)))

/-- R22: homing is refused where the down bound is out of range. -/
theorem goHome_of_bound_out_of_range {s : State} (he : s.err ≠ .endSwitchFault) (hsw : s.endSwitchN = true)
    (hr : posInRange s.cfg s.cfg.downBound = false) : goHome s = .refused .posOutOfRange := by
  simp [goHome, leaveFault_of_not_permanent he, hsw, writePos_out_of_range, hr]

/-- Settles O25: the write of `pos` is refused, and with it the tick, the edge or the homing. -/
theorem positionOutOfRangeIsRefused : Obligations.PositionOutOfRangeIsRefused := by
  intro s level
  refine ⟨onRotationTick_past_top, onRotationTick_past_bottom, fun hl hd hp => ?_, fun hl hd hp => ?_,
    fun he hsw hp => ?_⟩
  · exact (onComparatorEdge_genuine hl).trans (onRotationTick_past_top hd hp)
  · exact (onComparatorEdge_genuine hl).trans (onRotationTick_past_bottom hd hp)
  · rw [exec_goHome, goHome_of_bound_out_of_range he hsw (posInRange_eq_false_of_ge hp)]
    rfl

/-- Settles O26: the callback's equation in its two cases. -/
theorem endswitchTriggeredResult : Obligations.EndswitchTriggeredResult := by
  intro s
  have heq : exec .onEndswitchTriggered s = returnsUnit (onEndswitchTriggered s) := rfl
  rw [heq, onEndswitchTriggered_eq, returnsUnit_next]
  refine ⟨fun hd => ?_, fun hd => ?_⟩
  · rw [if_neg hd]
  · rw [if_pos hd]

/-! ### The periodic check (R89) -/

theorem stalled_iff (s : State) :
    stalled s = true ↔ s.cfg.stallMs * s.cfg.tickHzNum / (1000 * s.cfg.tickHzDen) < (s.tick - s.ltt).toNat := by
  rw [stalled, expired, decide_eq_true_eq]; rfl

theorem overrun_iff (s : State) : overrun s = true ↔ s.pos ≤ s.cfg.upBound := by
  rw [overrun, decide_eq_true_eq]

theorem checkLimits_of_up {s : State} (hd : s.dir = .up) :
    checkLimits s =
      if (upStopCondition s).1 = true then applyDirection .neutral (switchSampled s) else switchSampled s := by
  rw [checkLimits, hd]; rfl

theorem checkLimits_of_down {s : State} (hd : s.dir = .down) :
    checkLimits s = if downStopCondition s = true then applyDirection .neutral s else s := by
  rw [checkLimits, hd]

theorem checkLimits_of_neutral {s : State} (hd : s.dir = .neutral) : checkLimits s = s := by
  rw [checkLimits, hd]

/-- A stall ends the check in Neutral, where its other two steps do nothing. -/
theorem checkStopConditions_of_stalled {s : State} (hd : s.dir ≠ .neutral) (hs : stalled s = true) :
    checkStopConditions s = takeFault .rotationFault s := by
  have h1 : checkStall s = takeFault .rotationFault s := (if_neg hd).trans (if_pos hs)
  rw [checkStopConditions, h1]
  exact checkStopConditions_of_neutral (s := takeFault .rotationFault s) rfl

/-- Moving Up past the bound is the permanent fault, and step 3 finds Neutral. -/
theorem checkStopConditions_of_overrun {s : State} (hd : s.dir = .up) (hs : ¬ stalled s = true)
    (ho : overrun s = true) : checkStopConditions s = takeFault .endSwitchFault s := by
  have hn : s.dir ≠ .neutral := by rw [hd]; decide
  have h1 : checkStall s = s := (if_neg hn).trans (if_neg hs)
  have h2 : checkOverrun s = takeFault .endSwitchFault s := (if_pos hd).trans (if_pos ho)
  rw [checkStopConditions, h1, h2]
  rfl

/-- Moving Up short of the bound, the normal limit samples the switch. -/
theorem checkStopConditions_of_up {s : State} (hd : s.dir = .up) (hs : ¬ stalled s = true)
    (ho : ¬ overrun s = true) :
    checkStopConditions s =
      if (upStopCondition s).1 = true then applyDirection .neutral (switchSampled s) else switchSampled s := by
  have hn : s.dir ≠ .neutral := by rw [hd]; decide
  have h1 : checkStall s = s := (if_neg hn).trans (if_neg hs)
  have h2 : checkOverrun s = s := (if_pos hd).trans (if_neg ho)
  rw [checkStopConditions, h1, h2, checkLimits_of_up hd]

/-- Moving Down only the normal limit is left. -/
theorem checkStopConditions_of_down {s : State} (hd : s.dir = .down) (hs : ¬ stalled s = true) :
    checkStopConditions s = if downStopCondition s = true then applyDirection .neutral s else s := by
  have hn : s.dir ≠ .neutral := by rw [hd]; decide
  have hu : s.dir ≠ .up := by rw [hd]; decide
  have h1 : checkStall s = s := (if_neg hn).trans (if_neg hs)
  have h2 : checkOverrun s = s := if_neg hu
  rw [checkStopConditions, h1, h2, checkLimits_of_down hd]

/-- Settles O27: stall, overrun and normal limit, each with the equation of its case. -/
theorem checkStopConditionsResult : Obligations.CheckStopConditionsResult := by
  intro s elapsed stall helapsed hstall
  have heq : exec .checkStopConditions s = .next { checkStopConditions s with ret := .unit } := rfl
  have hstalled : stalled s = true ↔ stall < elapsed := by rw [stalled_iff, ← hstall, ← helapsed]
  have hover : overrun s = true ↔ s.pos ≤ s.cfg.upBound := overrun_iff s
  rw [heq]
  refine ⟨fun hd => ?_, fun hd hlt => ?_, fun hd hle hp => ?_, fun hd hle hp hstop => ?_,
    fun hd hle hp he hsw => ?_, fun hd hle hstop => ?_, fun hd hle he hp => ?_⟩
  · rw [checkStopConditions_of_neutral hd]
  · rw [checkStopConditions_of_stalled hd (hstalled.2 hlt), takeFault_eq]
    rfl
  all_goals have hs : ¬ stalled s = true := by rw [hstalled]; omega
  · rw [checkStopConditions_of_overrun hd hs (hover.2 hp), takeFault_eq]
    rfl
  · rw [checkStopConditions_of_up hd hs (by rw [hover]; omega),
      if_pos ((upStopCondition_fst_eq_true_iff s).2 (hstop.imp_right .inr)), applyDirection_neutral]
  · rw [checkStopConditions_of_up hd hs (by rw [hover]; omega), upStopCondition_fst_eq_false he hp hsw]
    rfl
  · rw [checkStopConditions_of_down hd hs, if_pos ((downStopCondition_eq_true_iff s).2 hstop),
      applyDirection_neutral]
  · rw [checkStopConditions_of_down hd hs, downStopCondition_eq_false he hp]
    rfl

/-- Settles O29: fault entry in one piece. -/
theorem enterErrorForcesNeutralAndRecords : Obligations.EnterErrorForcesNeutralAndRecords := by
  have heq : ∀ k s, exec (.enterError k) s = .next { takeFault k s with ret := .unit } := fun _ _ => rfl
  intro s
  rw [heq, heq, takeFault_eq, takeFault_eq]
  exact ⟨rfl, rfl⟩

/-- R89: the stall is decided at K1b on the reference the line carries. -/
theorem fgLine_k1b {s : State} {r : ClockTick} (h : s.fgAt = .k1b r) :
    fgLine s = .next (if expired (now s) r (stallTicks s.cfg) = true
      then call (.e1 .rotationFault) (.line .k2) s else goto .k2 s) := by
  simp only [fgLine, h]

/-- Settles O30: `ltt` is none of the operands of the test at K1b. -/
theorem stallIsDecidedOnTheReferenceReadFirst : Obligations.StallIsDecidedOnTheReferenceReadFirst := by
  intro s r l hf
  have hk := fgLine_k1b (s := { s with ltt := l }) hf
  refine ⟨fun hlt => ?_, fun hle => ?_⟩
  · exact hk.trans (congrArg _ (if_pos (decide_eq_true hlt)))
  · have hne : ¬ expired s.tick r (stallTicks s.cfg) = true := by
      rw [expired, decide_eq_true_eq]
      exact Nat.not_lt.2 hle
    exact hk.trans (congrArg _ (if_neg hne))

/-! ## The Monoflop, the dispatcher's other commands and the LED (R95, R97, R116, R117, R130) -/

/-- Settles O32: by the operation's equation. -/
theorem triggerStampsAndActivates : Obligations.TriggerStampsAndActivates := by
  intro s
  have heq : exec .trigger s = .next { trigger s with ret := .unit } := rfl
  rw [heq, trigger_eq]

/-- R97: the poll keeps the latch while at most `MONO_TICKS` have elapsed. -/
theorem regularCheck_eq_latchAfterPoll (s : State) : regularCheck s = { s with monoActive := latchAfterPoll s } := by
  have hw : (!windowOver s) = decide ((s.tick - s.monoTrig).toNat ≤
      s.cfg.monoflopMs * s.cfg.tickHzNum / (1000 * s.cfg.tickHzDen)) := by
    rw [windowOver, expired, ← decide_not]
    exact decide_eq_decide.2 Nat.not_lt
  rw [regularCheck_eq, hw]
  rfl

/-- Settles O33: the latch after the poll in its three cases. -/
theorem regularCheckClearsAnExpiredLatch : Obligations.RegularCheckClearsAnExpiredLatch := by
  intro s mono hmono
  have heq : exec .regularCheck s = .next { regularCheck s with ret := .unit } := rfl
  rw [heq, regularCheck_eq_latchAfterPoll, latchAfterPoll, ← hmono]
  refine ⟨fun ha hlt => ?_, fun ha hle => ?_, fun ha => ?_⟩
  · rw [decide_eq_false (Nat.not_le.2 hlt), Bool.and_false]
  · rw [decide_eq_true hle, Bool.and_true]
  · rw [ha, Bool.false_and, ← ha]

/-- Settles O43: Set is nothing, Unknown is the request for Neutral. -/
theorem setAndUnknownCommandResult : Obligations.SetAndUnknownCommandResult := by
  intro s i
  have hset : (i = .irSet ∨ i = .dispatch .set) → exec i s = .next { s with ret := .unit } := by
    rintro (rfl | rfl) <;> rfl
  have hunknown : ((∃ w, i = .irUnknown w) ∨ i = .dispatch .unknown) →
      exec i s = .next { setDirection .neutral s with ret := .unit } := by
    rintro (⟨w, rfl⟩ | rfl) <;> rfl
  refine ⟨hset, fun hi hd => ?_, fun hi hd => ?_⟩ <;> rw [hunknown hi]
  · rw [setDirection_neutral, if_neg hd, if_neg hd]
  · rw [setDirection_of_dir_eq hd]

theorem ledValue_of_rotationFault {s : State} (h : s.err = .rotationFault) :
    ledValue s = s.tick.getLsbD s.cfg.ledFastBit := by simp only [ledValue, h, now_eq]

theorem ledValue_of_endSwitchFault {s : State} (h : s.err = .endSwitchFault) :
    ledValue s = s.tick.getLsbD s.cfg.ledSlowBit := by simp only [ledValue, h, now_eq]

theorem ledValue_of_no_error {s : State} (h : s.err = .none) : ledValue s = s.monoActive := by
  simp only [ledValue, h]

/-- Settles O49: one equation per error. -/
theorem ledValueResult : Obligations.LedValueResult := by
  intro s
  have heq : exec .ledValue s = .next { s with ret := .bool (ledValue s) } := rfl
  rw [heq]
  refine ⟨fun he => ?_, fun he => ?_, fun he => ?_⟩
  · rw [ledValue_of_rotationFault he]
  · rw [ledValue_of_endSwitchFault he]
  · rw [ledValue_of_no_error he]

end Sys2Proof.Machine
end

section
namespace Sys2Proof.Machine
open Safety

/-! ## The lines of an operation run alone (R26, R42, R70)

`Runs s r` says that the foreground's lines, with no other agent between them, lead from `s` to the answer `r`. Each
operation's lemma says where its lines lead over any call stack: to what the operation does, and then the return. -/

/-- The foreground standing at line `l` over the call stack `st`. -/
def placed (l : Line) (st : List Cont) (s : State) : State := { s with fgAt := l, callStack := st }

/-- The lines from `s` lead to `r`. -/
def Runs (s : State) (r : Result) : Prop := ∃ n, runLines n s = r

namespace Runs

theorem refl (s : State) : Runs s (.next s) := ⟨0, rfl⟩

theorem line {s t : State} {r : Result} (h : fgLine s = .next t) (ht : Runs t r) : Runs s r := by
  obtain ⟨n, hn⟩ := ht
  exact ⟨n + 1, by rw [runLines, h, andThen_next, hn]⟩

theorem lastLine {s : State} {r : Result} (h : fgLine s = r) : Runs s r := by
  refine ⟨1, ?_⟩
  rw [runLines, h]
  cases r <;> rfl

theorem trans {s t : State} {r : Result} (h : Runs s (.next t)) (ht : Runs t r) : Runs s r := by
  obtain ⟨m, hm⟩ := h
  obtain ⟨n, hn⟩ := ht
  exact ⟨m + n, by rw [runLines_add, hm, andThen_next, hn]⟩


end Runs

/-- A return decides where the foreground goes on, so where it stood plays no part. -/
theorem returnTo_placed (v : Value) (st : List Cont) (l : Line) (st' : List Cont) (s : State) :
    returnTo v st (placed l st' s) = returnTo v st s := by
  obtain ⟨_, _, _, h⟩ := returnTo_uniform v st s.cfg
  exact (h (placed l st' s) rfl).trans (h s rfl).symm

theorem opReturn_placed (v : Value) (l : Line) (st : List Cont) (s : State) :
    opReturn v (placed l st s) = returnTo v st s :=
  returnTo_placed v st l st s

/-! ### The Screen's lines -/

theorem upStopCondition_runs (st : List Cont) (s : State) :
    Runs (placed .u1 st s) (.next (returnTo (.bool (upStopCondition s).1) st (upStopCondition s).2)) :=
  .line (t := placed (.u2 (errorPresent s)) st s) rfl <|
  .line (t := placed (.u3 (errorPresent s) s.pos) st s) rfl <|
  .lastLine (congrArg _ (opReturn_placed _ (.u3 (errorPresent s) s.pos) st (readEngaged s).2))

theorem downStopCondition_runs (st : List Cont) (s : State) :
    Runs (placed .w1 st s) (.next (returnTo (.bool (downStopCondition s)) st s)) :=
  .line (t := placed (.w2 (errorPresent s)) st s) rfl <|
  .lastLine (congrArg _ (opReturn_placed _ (.w2 (errorPresent s)) st s))

/-- A1 to A4 (R85). -/
theorem applyDirection_runs (d : Direction) (st : List Cont) (s : State) :
    Runs (placed (.a1 d) st s) (.next (returnTo .unit st (applyDirection d s))) := by
  have h3 : Runs (placed (.a3 d) st (applyA2 d (applyA1 d s))) (.next (returnTo .unit st (applyDirection d s))) := by
    cases d with
    | neutral => exact .lastLine (congrArg _ (opReturn_placed _ (.a3 .neutral) st (applyDirection .neutral s)))
    | up =>
      exact .line (t := placed .a4 st (writeDir .up (applyA2 .up (applyA1 .up s)))) rfl
        (.lastLine (congrArg _ (opReturn_placed _ .a4 st (applyDirection .up s))))
    | down =>
      exact .line (t := placed .a4 st (writeDir .down (applyA2 .down (applyA1 .down s)))) rfl
        (.lastLine (congrArg _ (opReturn_placed _ .a4 st (applyDirection .down s))))
  refine .line (t := placed (.a2 d) st (applyA1 d s)) ?_
      (.line (t := placed (.a3 d) st (applyA2 d (applyA1 d s))) ?_ h3)
  · cases d <;> rfl
  · cases d <;> rfl

/-- S3 and what follows it: the direction is admitted (R83). -/
theorem admitted_runs (d : Direction) (st : List Cont) (s : State) :
    Runs (placed (.s3 d) st s) (.next (returnTo .unit st (applyDirection d s))) :=
  .line (t := placed (.a1 d) st s) rfl (applyDirection_runs d st s)

theorem setDirection_runs (d : Direction) (st : List Cont) (s : State) :
    Runs (placed (.s1 d) st s) (.next (returnTo .unit st (setDirection d s))) := by
  by_cases hd : s.dir = d
  · rw [setDirection_of_dir_eq hd]
    exact .lastLine (congrArg _ ((if_pos hd).trans (opReturn_placed _ (.s1 d) st s)))
  · refine .line (t := placed (.s2 d) st s) (congrArg _ (if_neg hd)) ?_
    cases d with
    | neutral =>
      rw [show setDirection .neutral s = applyDirection .neutral s from if_neg hd]
      exact .line (t := placed (.s3 .neutral) st s) rfl (admitted_runs .neutral st s)
    | up =>
      refine .line (t := placed .u1 (.s2 .up :: st) s) rfl ((upStopCondition_runs _ s).trans ?_)
      rw [returnTo_s2]
      split
      · rename_i hc
        rw [setDirection_up_of_stop hd hc]
        exact .refl _
      · rename_i hc
        rw [setDirection_up_of_clear hd (Bool.eq_false_iff.2 hc)]
        exact admitted_runs .up st (switchSampled s)
    | down =>
      refine .line (t := placed .w1 (.s2 .down :: st) s) rfl ((downStopCondition_runs _ s).trans ?_)
      rw [returnTo_s2]
      split
      · rename_i hc
        rw [setDirection_down_of_stop hc]
        exact .refl _
      · rename_i hc
        rw [setDirection_down_of_clear hd (Bool.eq_false_iff.2 hc)]
        exact admitted_runs .down st s

theorem goHome_runs (st : List Cont) (s : State) :
    Runs (placed .g1 st s) (andThen (goHome s) fun t => .next (returnTo .unit st t)) := by
  by_cases he : s.err = .endSwitchFault
  · rw [goHome_of_permanent he, andThen_next]
    exact .lastLine (congrArg _ ((if_pos he).trans (opReturn_placed _ .g1 st s)))
  · refine .line (t := placed .g2 st s) (congrArg _ (if_neg he)) ?_
    refine .line (t := placed .g3 st { s with err := .none }) rfl ?_
    rcases (Bool.eq_false_or_eq_true s.endSwitchN).symm with hsw | hsw
    · rw [goHome_of_engaged he hsw, andThen_next]
      have hg : (readEngaged (placed .g3 st { s with err := .none })).1 = true := by simp [placed, hsw]
      exact .lastLine (congrArg _ ((if_pos hg).trans (opReturn_placed _ .g3 st { switchSampled s with err := .none })))
    · have hg : ¬ (readEngaged (placed .g3 st { s with err := .none })).1 = true := by simp [placed, hsw]
      refine .line (t := placed .g4 st { switchSampled s with err := .none }) (congrArg _ (if_neg hg)) ?_
      cases hr : posInRange s.cfg s.cfg.downBound
      · rw [goHome_of_bound_out_of_range he hsw hr]
        refine .lastLine ?_
        have hw : writePos s.cfg.downBound (placed .g4 st { switchSampled s with err := .none }) =
            .refused .posOutOfRange := writePos_out_of_range hr
        exact congrArg (andThen · fun t => .next (goto .g5 t)) hw
      · rw [goHome_of_released he hsw hr, andThen_next]
        have hw : writePos s.cfg.downBound (placed .g4 st { switchSampled s with err := .none }) =
            .next (placed .g4 st (homingRequest s)) := writePos_in_range hr
        refine .line (t := placed .g5 st (homingRequest s))
          (congrArg (andThen · fun t => .next (goto .g5 t)) hw) ?_
        exact .line (t := placed (.s1 .up) st (homingRequest s)) rfl (setDirection_runs .up st (homingRequest s))

theorem onEndswitchTriggered_runs (st : List Cont) (s : State) :
    Runs (placed .n1 st s) (andThen (onEndswitchTriggered s) fun t => .next (returnTo .unit st t)) := by
  refine .lastLine ?_
  have hline : fgLine (placed .n1 st s) =
      andThen (onEndswitchTriggered (placed .n1 st s)) fun t => .next (opReturn .unit t) := rfl
  rw [hline, onEndswitchTriggered_eq, onEndswitchTriggered_eq, andThen_next, andThen_next]
  by_cases hd : s.dir = .down
  · rw [if_pos hd, if_pos (show (placed .n1 st s).dir = .down from hd), opReturn_placed]
  · rw [if_neg hd, if_neg (show ¬ (placed .n1 st s).dir = .down from hd)]
    exact congrArg _ (opReturn_placed _ .n1 st { s with pos := 0 })

/-- E1 to E4 (R91). -/
theorem takeFault_runs (k : FaultKind) (st : List Cont) (s : State) :
    Runs (placed (.e1 k) st s) (.next (returnTo .unit st (takeFault k s))) :=
  .line (t := placed (.e2 k) st (applyA1 .neutral s)) rfl <|
  .line (t := placed (.e3 k) st (applyA2 .neutral (applyA1 .neutral s))) rfl <|
  .line (t := placed (.e4 k) st (applyDirection .neutral s)) rfl <|
  .lastLine (congrArg _ (opReturn_placed _ (.e4 k) st (takeFault k s)))

/-- K1 to K1b (R89). -/
theorem checkStall_runs (st : List Cont) (s : State) :
    Runs (placed .k1 st s) (.next (placed .k2 st (checkStall s))) := by
  by_cases hd : s.dir = .neutral
  · rw [show checkStall s = s from if_pos hd]
    exact .lastLine (congrArg _ (if_pos hd))
  · refine .line (t := placed .k1a st s) (congrArg _ (if_neg hd)) ?_
    refine .line (t := placed (.k1b s.ltt) st s) rfl ?_
    by_cases hs : stalled s = true
    · rw [show checkStall s = takeFault .rotationFault s from (if_neg hd).trans (if_pos hs)]
      exact .line (t := placed (.e1 .rotationFault) (.line .k2 :: st) s) (congrArg _ (if_pos hs))
        (takeFault_runs .rotationFault _ s)
    · rw [show checkStall s = s from (if_neg hd).trans (if_neg hs)]
      exact .lastLine (congrArg _ (if_neg hs))

/-- K2 and K2a (R89). -/
theorem checkOverrun_runs (st : List Cont) (s : State) :
    Runs (placed .k2 st s) (.next (placed .k3 st (checkOverrun s))) := by
  by_cases hd : s.dir = .up
  · refine .line (t := placed .k2a st s) (congrArg _ (if_pos hd)) ?_
    by_cases ho : overrun s = true
    · rw [show checkOverrun s = takeFault .endSwitchFault s from (if_pos hd).trans (if_pos ho)]
      exact .line (t := placed (.e1 .endSwitchFault) (.line .k3 :: st) s) (congrArg _ (if_pos ho))
        (takeFault_runs .endSwitchFault _ s)
    · rw [show checkOverrun s = s from (if_pos hd).trans (if_neg ho)]
      exact .lastLine (congrArg _ (if_neg ho))
  · rw [show checkOverrun s = s from if_neg hd]
    exact .lastLine (congrArg _ (if_neg hd))

theorem limitLine_of_neutral {s : State} (h : s.dir = .neutral) : limitLine s = opReturn .unit s := by
  rw [limitLine, h]

theorem limitLine_of_up {s : State} (h : s.dir = .up) : limitLine s = call .u1 .k3 s := by
  rw [limitLine, h]

theorem limitLine_of_down {s : State} (h : s.dir = .down) : limitLine s = call .w1 .k3 s := by
  rw [limitLine, h]

/-- K3 (R89). -/
theorem checkLimits_runs (st : List Cont) (s : State) :
    Runs (placed .k3 st s) (.next (returnTo .unit st (checkLimits s))) := by
  cases hd : s.dir with
  | neutral =>
    rw [checkLimits_of_neutral hd]
    exact .lastLine (congrArg _ ((limitLine_of_neutral (s := placed .k3 st s) hd).trans (opReturn_placed _ .k3 st s)))
  | up =>
    rw [checkLimits_of_up hd]
    refine .line (t := placed .u1 (.k3 :: st) s) (congrArg _ (limitLine_of_up (s := placed .k3 st s) hd)) ?_
    refine (upStopCondition_runs _ s).trans ?_
    rw [returnTo_k3]
    split
    · exact applyDirection_runs .neutral st (switchSampled s)
    · exact .refl _
  | down =>
    rw [checkLimits_of_down hd]
    refine .line (t := placed .w1 (.k3 :: st) s) (congrArg _ (limitLine_of_down (s := placed .k3 st s) hd)) ?_
    refine (downStopCondition_runs _ s).trans ?_
    rw [returnTo_k3]
    split
    · exact applyDirection_runs .neutral st s
    · exact .refl _

theorem checkStopConditions_runs (st : List Cont) (s : State) :
    Runs (placed .k1 st s) (.next (returnTo .unit st (checkStopConditions s))) :=
  ((checkStall_runs st s).trans (checkOverrun_runs st _)).trans (checkLimits_runs st _)

/-! ### The Monoflop's and the dispatcher's lines -/

theorem trigger_runs (st : List Cont) (s : State) :
    Runs (placed .m1 st s) (.next (returnTo .unit st (trigger s))) :=
  .line (t := placed .m2 st (stampMono s)) rfl <|
  .lastLine (congrArg _ (opReturn_placed _ .m2 st (trigger s)))

theorem regularCheck_runs (st : List Cont) (s : State) :
    Runs (placed .q1 st s) (.next (returnTo .unit st (regularCheck s))) := by
  have hq : regularCheck (placed .q1 st s) = placed .q1 st (regularCheck s) := by
    rw [regularCheck_eq, regularCheck_eq]; rfl
  refine .lastLine ?_
  have hline : fgLine (placed .q1 st s) = .next (opReturn .unit (regularCheck (placed .q1 st s))) := rfl
  rw [hline, hq, opReturn_placed]

/-- The request of a command that opens the window, and then the window (R112, R113). -/
theorem requestAndTrigger_runs (d : Direction) (st : List Cont) (s : State) :
    Runs (placed (.s1 d) (.line .m1 :: st) s) (.next (returnTo .unit st (trigger (setDirection d s)))) :=
  (setDirection_runs d _ s).trans (trigger_runs st (setDirection d s))

theorem dispatch_runs (b : Button) (st : List Cont) (s : State) :
    Runs (placed (.d0 b) st s) (andThen (dispatch b s) fun t => .next (returnTo .unit st t)) := by
  cases b with
  | on =>
    by_cases he : s.err = .rotationFault
    · rw [show dispatch .on s = goHome s from if_pos he]
      exact .line (t := placed .g1 st s) (congrArg _ (if_pos he)) (goHome_runs st s)
    · rw [show dispatch .on s = .next (trigger (setDirection .down s)) from if_neg he, andThen_next]
      exact .line (t := placed (.s1 .down) (.line .m1 :: st) s) (congrArg _ (if_neg he))
        (requestAndTrigger_runs .down st s)
  | off => exact .line (t := placed (.s1 .up) (.line .m1 :: st) s) rfl (requestAndTrigger_runs .up st s)
  | up =>
    by_cases ha : isActive s = true
    · rw [show dispatch .up s = .next (setDirection .up s) from congrArg _ (if_pos ha)]
      exact .line (t := placed (.s1 .up) st s) (congrArg _ (if_pos ha)) (setDirection_runs .up st s)
    · rw [show dispatch .up s = .next (setDirection .neutral s) from congrArg _ (if_neg ha)]
      exact .line (t := placed (.s1 .neutral) st s) (congrArg _ (if_neg ha)) (setDirection_runs .neutral st s)
  | down =>
    by_cases ha : isActive s = true
    · rw [show dispatch .down s = .next (setDirection .down s) from congrArg _ (if_pos ha)]
      exact .line (t := placed (.s1 .down) st s) (congrArg _ (if_pos ha)) (setDirection_runs .down st s)
    · rw [show dispatch .down s = .next (setDirection .neutral s) from congrArg _ (if_neg ha)]
      exact .line (t := placed (.s1 .neutral) st s) (congrArg _ (if_neg ha)) (setDirection_runs .neutral st s)
  | set => exact .lastLine (congrArg _ (opReturn_placed _ (.d0 .set) st s))
  | unknown => exact .line (t := placed (.s1 .neutral) st s) rfl (setDirection_runs .neutral st s)

/-! ### The whole operation -/

/-- `t` has the foreground where `s` has it, and has returned nothing since. -/
structure InPlaceOf (s t : State) : Prop where
  fgAt : t.fgAt = s.fgAt
  callStack : t.callStack = s.callStack
  ret : t.ret = s.ret

/-- No operation but the reads moves the foreground, and their bodies return nothing. -/
theorem inPlaceKept (s : State) : KeptByOperations (InPlaceOf s) where
  congr := fun h _ hf hc hr => ⟨hf.trans h.fgAt, hc.trans h.callStack, hr.trans h.ret⟩
  setDirection := fun {t} d h => by
    obtain ⟨_, _, _, _, _, _, ht⟩ := setDirection_frame d t
    rw [ht]; exact ⟨h.fgAt, h.callStack, h.ret⟩
  clearError := fun _ h => ⟨h.fgAt, h.callStack, h.ret⟩
  checkStopConditions := fun {t} h => by
    obtain ⟨_, _, _, _, _, _, ht⟩ := checkStopConditions_frame t
    rw [ht]; exact ⟨h.fgAt, h.callStack, h.ret⟩

/-- The return of an operation run alone puts the foreground back where it was, with the value (R70). -/
theorem returnTo_alone_of_inPlace (v : Value) {s t : State} (h : InPlaceOf s t) :
    returnTo v (.alone s.fgAt :: s.callStack) t = withRet v t := by
  rw [returnTo_alone, ← h.fgAt, ← h.callStack]; rfl

/-- So the return of an operation that returns nothing is `returnsUnit`. -/
theorem andThen_returnTo_alone {o : Result} {s : State} (h : ∀ t, o = .next t → InPlaceOf s t) :
    (andThen o fun t => .next (returnTo .unit (.alone s.fgAt :: s.callStack) t)) = returnsUnit o := by
  cases o with
  | next t => exact congrArg Host.Outcome.next (returnTo_alone_of_inPlace .unit (h t rfl))
  | fault r => cases r
  | refused r => rfl

/-- Settles O50: each operation's lines, over the stack of an operation run alone. -/
theorem linesRunAloneAreTheOperation : Obligations.LinesRunAloneAreTheOperation := by
  intro i l s hl hread hloop
  have hplace := inPlaceKept s
  have hs : InPlaceOf s s := ⟨rfl, rfl, rfl⟩
  -- an operation that answers `t`, in the place of `s`, and returns `v`
  have answered : ∀ v t, InPlaceOf s t →
      Runs (invoke l s) (.next (returnTo v (.alone s.fgAt :: s.callStack) t)) →
      Runs (invoke l s) (.next (withRet v t)) := by
    intro v t ht h
    rwa [returnTo_alone_of_inPlace v ht] at h
  change Runs (invoke l s) (exec i s)
  cases i with
  | irReadFrame => exact absurd rfl hread
  | loopIteration => exact absurd rfl hloop
  | irOn | irOff | irUp | irDown | irSet | irUnknown | dispatch =>
    cases hl
    rw [exec_of_pressedButton rfl, ← andThen_returnTo_alone fun t ht => hplace.dispatch hs ht]
    exact dispatch_runs _ _ s
  | setDirection d => cases hl; exact answered _ _ (hplace.setDirection d hs) (setDirection_runs d _ s)
  | goHome =>
    cases hl
    rw [exec_goHome, ← andThen_returnTo_alone fun t ht => hplace.goHome hs ht]
    exact goHome_runs _ s
  | onEndswitchTriggered =>
    cases hl
    have hkept : ∀ t, onEndswitchTriggered s = .next t → InPlaceOf s t := by
      intro t ht
      cases (onEndswitchTriggered_eq s).symm.trans ht
      split <;> exact ⟨rfl, rfl, rfl⟩
    rw [show exec .onEndswitchTriggered s = returnsUnit (onEndswitchTriggered s) from rfl,
      ← andThen_returnTo_alone hkept]
    exact onEndswitchTriggered_runs _ s
  | checkStopConditions =>
    cases hl; exact answered _ _ (hplace.checkStopConditions hs) (checkStopConditions_runs _ s)
  | upStopCondition => cases hl; exact answered _ (upStopCondition s).2 ⟨rfl, rfl, rfl⟩ (upStopCondition_runs _ s)
  | downStopCondition => cases hl; exact answered _ s hs (downStopCondition_runs _ s)
  | enterError k => cases hl; exact answered _ (takeFault k s) ⟨rfl, rfl, rfl⟩ (takeFault_runs k _ s)
  | trigger => cases hl; exact answered _ (trigger s) ⟨rfl, rfl, rfl⟩ (trigger_runs _ s)
  | regularCheck => cases hl; exact answered _ _ (hplace.regularCheck hs) (regularCheck_runs _ s)
  | _ => cases hl

end Sys2Proof.Machine
end

section
namespace Sys2Proof.Machine
open Safety

/-! ## The lines of the read and of the iteration (R101, R125) -/

/-- A read in progress: the frame so far, and the port with what it will show. -/
def receiving (f : IrFrame) (level : Bool) (rest : List Bool) (s : State) : State :=
  { s with ir := some f, irLine := level, irNext := rest }

/-- Where the lines of a read lead, by how far the samples take it: the return of its frame, or line I1 for ever. -/
def afterRead (st : List Cont) (r : IrScan) (s : State) : State :=
  if r.returned then
    returnTo (.frame (frameValue r.frame).1 (frameValue r.frame).2) st { afterScan r s with ir := none }
  else placed .i1 st (receiving r.frame r.level r.rest s)

/-- I1: a low sample stays there. -/
theorem low_line (st : List Cont) (f : IrFrame) (rest : List Bool) (s : State) :
    fgLine (placed .i1 st (receiving f false rest s)) =
      .next (placed .i1 st (receiving f (rest.headD false) rest.tail s)) := rfl

/-- I1 and I2: a high sample begins a phase, and the count is zero. -/
theorem high_runs (st : List Cont) (f : IrFrame) (rest : List Bool) (s : State) {r : Result}
    (h : Runs (placed .i3 st (receiving { f with d := 0 } (rest.headD true) rest.tail s)) r) :
    Runs (placed .i1 st (receiving f true rest s)) r :=
  .line (t := placed .i2 st (receiving f (rest.headD true) rest.tail s)) rfl <|
  .line (t := placed .i3 st (receiving { f with d := 0 } (rest.headD true) rest.tail s)) rfl h

/-- I3: past the threshold nothing is sampled. -/
theorem measureLine_over {f : IrFrame} {s : State} (h : irTEof s.cfg < f.d) (st : List Cont) (level : Bool)
    (rest : List Bool) :
    fgLine (placed .i3 st (receiving f level rest s)) = .next (placed .i4 st (receiving f level rest s)) :=
  congrArg _ (if_pos h)

/-- I3: a high sample is counted. -/
theorem measureLine_high {f : IrFrame} {s : State} (h : ¬ irTEof s.cfg < f.d) (st : List Cont) (rest : List Bool) :
    fgLine (placed .i3 st (receiving f true rest s)) =
      .next (placed .i3 st (receiving { f with d := f.d + 1 } (rest.headD true) rest.tail s)) :=
  congrArg _ (if_neg h)

/-- I3: a low sample ends the phase. -/
theorem measureLine_low {f : IrFrame} {s : State} (h : ¬ irTEof s.cfg < f.d) (st : List Cont) (rest : List Bool) :
    fgLine (placed .i3 st (receiving f false rest s)) =
      .next (placed .i4 st (receiving f (rest.headD false) rest.tail s)) :=
  congrArg _ (if_neg h)

/-- I4 within the threshold: the phase is a bit. -/
theorem phaseLine_bit {f : IrFrame} {s : State} (h : ¬ irTEof s.cfg < f.d) (st : List Cont) (level : Bool)
    (rest : List Bool) :
    fgLine (placed .i4 st (receiving f level rest s)) =
      .next (placed .i1 st (receiving (shiftIn (irTBit s.cfg) f.d f) level rest s)) :=
  congrArg _ (if_neg h)

/-- I3 and I4 past the threshold: the line is idle and the read returns. -/
theorem idle_runs {f : IrFrame} {s : State} (h : irTEof s.cfg < f.d) (st : List Cont) (level : Bool)
    (rest : List Bool) :
    Runs (placed .i3 st (receiving f level rest s)) (.next (afterRead st ⟨true, f, level, rest⟩ s)) := by
  refine .line (measureLine_over h st level rest) (.lastLine ?_)
  have hline : fgLine (placed .i4 st (receiving f level rest s)) = .next (opReturn
      (.frame (frameValue f).1 (frameValue f).2) { placed .i4 st (receiving f level rest s) with ir := none }) :=
    congrArg _ (if_pos h)
  exact hline.trans (congrArg _ (opReturn_placed _ .i4 st { receiving f level rest s with ir := none }))

/-- I3 on a line that stays high counts past the threshold. -/
theorem stayingHigh_runs {f : IrFrame} {s : State} (h : f.d ≤ irTEof s.cfg + 1) (st : List Cont) :
    Runs (placed .i3 st (receiving f true [] s))
      (.next (afterRead st ⟨true, { f with d := irTEof s.cfg + 1 }, true, []⟩ s)) := by
  induction hn : irTEof s.cfg + 1 - f.d generalizing f with
  | zero =>
    have hd : f.d = irTEof s.cfg + 1 := by omega
    rw [← hd]
    exact idle_runs (by omega) st true []
  | succ n ih =>
    exact .line (measureLine_high (by omega) st [])
      (ih (f := { f with d := f.d + 1 }) (by dsimp only; omega) (by dsimp only; omega))

/-- I1 to I4 over the samples the environment has fixed. -/
theorem read_runs (s : State) (st : List Cont) (inHigh : Bool) (f : IrFrame) (level : Bool) (rest : List Bool) :
    Runs (placed (if inHigh then .i3 else .i1) st (receiving f level rest s))
      (.next (afterRead st (irScan (irTBit s.cfg) (irTEof s.cfg) inHigh f level rest) s)) := by
  induction inHigh, f, level, rest using irScan.induct (irTBit s.cfg) (irTEof s.cfg) with
  | case1 f => exact .refl _
  | case2 f x xs ih => exact .line (low_line st f (x :: xs) s) ih
  | case3 f => exact high_runs st f [] s (stayingHigh_runs (f := { f with d := 0 }) (Nat.zero_le _) st)
  | case4 f x xs ih => exact high_runs st f (x :: xs) s ih
  | case5 f level ho => rw [irScan, if_pos ho]; exact idle_runs ho st level []
  | case6 f ho =>
    rw [irScan, if_neg ho, if_pos rfl]
    exact stayingHigh_runs (by omega) st
  | case7 f level ho hl =>
    rw [irScan, if_neg ho, if_neg hl, Bool.eq_false_iff.2 hl]
    exact .line (measureLine_low ho st []) (.line (phaseLine_bit ho st false []) (.refl _))
  | case8 f level x xs ho => rw [irScan, if_pos ho]; exact idle_runs ho st level (x :: xs)
  | case9 f x xs ho ih =>
    rw [irScan, if_neg ho, if_pos rfl]
    exact .line (measureLine_high ho st (x :: xs)) ih
  | case10 f level x xs ho hl ih =>
    rw [irScan, if_neg ho, if_neg hl, Bool.eq_false_iff.2 hl]
    exact .line (measureLine_low ho st (x :: xs)) (.line (phaseLine_bit ho st x xs) ih)

/-- I0 to I4: the read. -/
theorem readFrame_runs (st : List Cont) (s : State) :
    Runs (placed .i0 st s) (.next (afterRead st (scanLine s) s)) :=
  .line (t := placed .i1 st (receiving IrFrame.zero s.irLine s.irNext s)) rfl
    (read_runs s st false IrFrame.zero s.irLine s.irNext)

theorem afterRead_of_returned {s : State} (h : (scanLine s).returned = true) (st : List Cont) :
    afterRead st (scanLine s) s = returnTo
      (.frame (frameValue (scanLine s).frame).1 (frameValue (scanLine s).frame).2) st (readReturned s) :=
  if_pos h

theorem afterRead_of_waiting {s : State} (h : (scanLine s).returned = false) (conts : List Cont) :
    afterRead (conts ++ s.callStack) (scanLine s) s = readWaiting conts s :=
  if_neg (Bool.eq_false_iff.1 h)

/-- Settles O51: over the stack of an operation run alone the read returns its value or waits at I1. -/
theorem readLinesRunAloneAreTheRead : Obligations.ReadLinesRunAloneAreTheRead := by
  intro s
  change Runs (placed .i0 (.alone s.fgAt :: s.callStack) s) (execIrReadFrame s)
  have h := readFrame_runs (.alone s.fgAt :: s.callStack) s
  cases hr : (scanLine s).returned
  · rw [execIrReadFrame_of_waiting hr, ← afterRead_of_waiting hr]
    exact h
  · rw [execIrReadFrame_of_returned hr]
    have hs : InPlaceOf s (readReturned s) := ⟨rfl, rfl, rfl⟩
    rwa [afterRead_of_returned hr, returnTo_alone_of_inPlace _ hs] at h

/-! ### The iteration -/

/-- C3 and its callback. -/
theorem pollEndSwitch_runs (st : List Cont) (s : State) :
    Runs (placed .c3 st s) (.next (placed .c4 st (endSwitchPolled s))) := by
  by_cases hsw : (readEngaged s).1 = true
  · refine .line (t := placed .n1 (.line .c4 :: st) (switchSampled s)) (congrArg _ (if_pos hsw)) ?_
    have h := onEndswitchTriggered_runs (.line .c4 :: st) (switchSampled s)
    have hpoll : onEndswitchTriggered (switchSampled s) = .next (endSwitchPolled s) :=
      (if_pos hsw).symm.trans (pollEndSwitch_eq s)
    rwa [hpoll, andThen_next] at h
  · have hpoll : .next (switchSampled s) = Host.Outcome.next (endSwitchPolled s) :=
      (if_neg hsw).symm.trans (pollEndSwitch_eq s)
    rw [← Host.Outcome.next.inj hpoll]
    exact .lastLine (congrArg _ (if_neg hsw))

/-- C3 to C5. -/
theorem loopTail_runs (st : List Cont) (s : State) :
    Runs (placed .c3 st s) (andThen (loopTail s) fun t => .next (returnTo .unit st t)) := by
  rw [loopTail_eq, andThen_next]
  refine (pollEndSwitch_runs st s).trans ?_
  refine .line (t := placed .k1 (.line .c5 :: st) (endSwitchPolled s)) rfl ?_
  refine (checkStopConditions_runs (.line .c5 :: st) (endSwitchPolled s)).trans ?_
  exact .lastLine (congrArg _ (opReturn_placed _ .c5 st (driveLed (checkStopConditions (endSwitchPolled s)))))

/-- D0 and C3 to C5: a frame has been returned (R126). -/
theorem dispatched_runs (b : Button) (st : List Cont) (s : State) :
    Runs (placed (.d0 b) (.line .c3 :: st) s)
      (andThen (andThen (dispatch b s) loopTail) fun t => .next (returnTo .unit st t)) := by
  have h := dispatch_runs b (.line .c3 :: st) s
  cases hd : dispatch b s with
  | next t =>
    rw [hd] at h
    exact h.trans (loopTail_runs st t)
  | fault r => cases r
  | refused r => rwa [hd] at h

/-- C2 on an idle line. -/
theorem idlePoll_runs {s : State} (h : s.irLine = true) (st : List Cont) :
    Runs (placed .c2 st s) (andThen (loopTail (irSampled s)) fun t => .next (returnTo .unit st t)) :=
  .line (t := placed .c3 st (irSampled s)) (congrArg _ (if_pos h)) (loopTail_runs st (irSampled s))

/-- C2 on a low sample: the read is called. -/
theorem lowPoll_runs {s : State} (h : s.irLine = false) (st : List Cont) :
    Runs (placed .c2 st s) (.next (afterRead (.c2 :: st) (scanLine (irSampled s)) (irSampled s))) :=
  .line (t := placed .i0 (.c2 :: st) (irSampled s)) (congrArg _ (if_neg (Bool.eq_false_iff.1 h)))
    (readFrame_runs (.c2 :: st) (irSampled s))

/-- An iteration whose read, if it makes one, returns: C1 to C5 (R125). -/
def iterationBody (s : State) : Result :=
  if s.irLine = true then loopTail (irSampled (regularCheck s))
  else andThen (dispatch (readButton (irSampled s)) (readReturned (irSampled (regularCheck s)))) loopTail

theorem execLoopIteration_eq_body {s : State} (h : s.irLine = true ∨ (scanLine (irSampled s)).returned = true) :
    execLoopIteration s = returnsUnit (iterationBody s) := by
  unfold iterationBody
  split
  · rename_i hl
    exact execLoopIteration_of_idle hl
  · rename_i hl
    exact execLoopIteration_of_returned (Bool.eq_false_iff.2 hl) (h.resolve_left hl)

theorem iterationBody_inPlace {s t : State} (h : iterationBody s = .next t) : InPlaceOf s t := by
  have hq : InPlaceOf s (regularCheck s) := (inPlaceKept s).regularCheck ⟨rfl, rfl, rfl⟩
  unfold iterationBody at h
  split at h
  · exact (inPlaceKept s).loopTail (s := irSampled (regularCheck s)) ⟨hq.fgAt, hq.callStack, hq.ret⟩ h
  · obtain ⟨v, hv, h⟩ := andThen_eq_next h
    refine (inPlaceKept s).loopTail ((inPlaceKept s).dispatch ?_ hv) h
    exact ⟨hq.fgAt, hq.callStack, hq.ret⟩

/-- Q1, which C1 has called, and the lines after it. -/
theorem iterationBody_runs {s : State} (st : List Cont)
    (h : s.irLine = true ∨ (scanLine (irSampled s)).returned = true) :
    Runs (placed .q1 (.line .c2 :: st) s) (andThen (iterationBody s) fun t => .next (returnTo .unit st t)) := by
  have hline : (regularCheck s).irLine = s.irLine := by rw [regularCheck_eq]
  refine (regularCheck_runs (.line .c2 :: st) s).trans ?_
  unfold iterationBody
  split
  · rename_i hl
    exact idlePoll_runs (hline.trans hl) st
  · rename_i hl
    have hr := h.resolve_left hl
    refine (lowPoll_runs (hline.trans (Bool.eq_false_iff.2 hl)) st).trans ?_
    rw [afterRead_of_returned (by rw [scanLine_regularCheck]; exact hr), ← readButton_regularCheck]
    exact dispatched_runs (readButton (irSampled (regularCheck s))) st (readReturned (irSampled (regularCheck s)))

/-- The same lines where the read waits: C2 is still to judge its frame. -/
theorem waitingIteration_runs {s : State} (hl : s.irLine = false) (hr : (scanLine (irSampled s)).returned = false) :
    Runs (placed .q1 (.line .c2 :: .alone s.fgAt :: s.callStack) s) (execLoopIteration s) := by
  have hline : (regularCheck s).irLine = s.irLine := by rw [regularCheck_eq]
  have hst : (irSampled (regularCheck s)).callStack = s.callStack := by rw [regularCheck_eq]; rfl
  have hr' : (scanLine (irSampled (regularCheck s))).returned = false := by rw [scanLine_regularCheck]; exact hr
  refine (regularCheck_runs _ s).trans ?_
  rw [execLoopIteration_of_waiting hl hr, ← afterRead_of_waiting hr', hst]
  exact lowPoll_runs (hline.trans hl) (.alone s.fgAt :: s.callStack)

/-- Settles O52: C1 calls Q1, and from there the lines are the iteration's, over the stack of an operation run alone
and over the loop's own. -/
theorem loopLinesRunAloneAreTheIteration : Obligations.LoopLinesRunAloneAreTheIteration := by
  have reads : ∀ s : State, (s.irLine = true ∨ (scanLine (irSampled s)).returned = true) ∨
      (s.irLine = false ∧ (scanLine (irSampled s)).returned = false) := by
    intro s
    cases s.irLine <;> cases (scanLine (irSampled s)).returned <;> decide
  refine ⟨fun s => ?_, fun s t hf hst h ht => ?_⟩
  · refine Runs.line (t := placed .q1 (.line .c2 :: .alone s.fgAt :: s.callStack) s) rfl ?_
    change Runs _ (execLoopIteration s)
    rcases reads s with hr | ⟨hl, hr⟩
    · rw [execLoopIteration_eq_body hr, ← andThen_returnTo_alone fun t ht => iterationBody_inPlace ht]
      exact iterationBody_runs _ hr
    · exact waitingIteration_runs hl hr
  · change execLoopIteration s = .next t at h
    rcases reads s with hr | ⟨hl, hr⟩
    · rw [execLoopIteration_eq_body hr] at h
      obtain ⟨u, hu, rfl⟩ := returnsUnit_eq_next h
      have hp := iterationBody_inPlace hu
      have hline : fgLine s = .next (placed .q1 [.line .c2] s) := by
        simp only [fgLine, hf, call, hst, placed]
      obtain ⟨n, hn⟩ := iterationBody_runs [] hr
      refine ⟨n + 1, Nat.succ_pos n, ?_⟩
      rw [runLines, hline, andThen_next, hn, hu, andThen_next, returnTo_nil, ← hf, ← hst, ← hp.fgAt,
        ← hp.callStack, ← hp.ret]
    · cases (execLoopIteration_of_waiting hl hr).symm.trans h
      cases ht

/-! ### Boot (R156) -/

/-- B1 to B3: the outputs driven and the interrupt enabled. -/
theorem runLines_boot (n : Nat) (s : State) :
    runLines (n + 3) (placed .b1 [] s) =
      runLines n (placed .b4 [] { driveResetOutputs s with irqEnabled := true }) := rfl

/-- Settles O11: B4 decides between the loop and the homing. -/
theorem bootEnablesTheInterruptAndEntersTheLoop : Obligations.BootEnablesTheInterruptAndEntersTheLoop := by
  intro s hf hst
  have hs : placed .b1 [] s = s := by rw [placed, ← hf, ← hst]
  refine ⟨fun hb => ?_, fun hb => ?_⟩
  · have hb4 : fgLine (placed .b4 [] { driveResetOutputs s with irqEnabled := true }) =
        .next (placed .b5 [] { driveResetOutputs s with irqEnabled := true }) :=
      congrArg _ (if_neg (Bool.eq_false_iff.1 hb))
    rw [← hs, runLines_boot 2, runLines, hb4]
    rfl
  · have hb4 : fgLine (placed .b4 [] { driveResetOutputs s with irqEnabled := true }) =
        .next (placed .g1 [.line .b5] { driveResetOutputs s with irqEnabled := true }) := congrArg _ (if_pos hb)
    rw [← hs, runLines_boot 1, runLines, hb4]
    rfl

end Sys2Proof.Machine
end

section
namespace Sys2Proof.Machine
open Safety

/-! ## Lines that commute with the timer and with the handler (R42, R48)

The counter and the handler's cells are written by the other two agents. A line that neither reads the clock nor touches
what it shares with the handler carries them along, whatever they hold; the few lines left over are looked at one by
one. -/

/-- The cells the timer and the handler write. -/
structure ForeignCells where
  tick : ClockTick
  biasReg : Bool
  bias : Bool
  lastLevel : Bool
  pos : Int
  ltt : ClockTick

/-- `s` with these cells. -/
def withForeign (c : ForeignCells) (s : State) : State :=
  { s with tick := c.tick, biasReg := c.biasReg, bias := c.bias, lastLevel := c.lastLevel, pos := c.pos, ltt := c.ltt }

/-- The cells as `s` holds them. -/
def foreignOf (s : State) : ForeignCells := ⟨s.tick, s.biasReg, s.bias, s.lastLevel, s.pos, s.ltt⟩

theorem opReturn_withForeign (v : Value) (c : ForeignCells) (s : State) :
    opReturn v (withForeign c s) = withForeign c (opReturn v s) := by
  obtain ⟨_, _, _, h⟩ := returnTo_uniform v s.callStack s.cfg
  have h1 := h (withForeign c s) rfl
  have h2 := h s rfl
  exact h1.trans (congrArg (withForeign c) h2).symm

/-- What a line does that carries along foreign cells `c` with `P c`: it writes none of them, nor `dir`, and does the
same whichever of them the state holds. -/
def Carries (P : ForeignCells → Prop) (s : State) : Prop :=
  ∃ u, foreignOf u = foreignOf s ∧ u.dir = s.dir ∧ u.cfg = s.cfg ∧
    ∀ c, P c → fgLine (withForeign c s) = .next (withForeign c u)

theorem opReturn_foreignOf (v : Value) (s : State) : foreignOf (opReturn v s) = foreignOf s := by
  obtain ⟨_, _, _, h⟩ := opReturn_frame v s
  rw [h]; rfl

@[simp] theorem opReturn_dir (v : Value) (s : State) : (opReturn v s).dir = s.dir := by
  obtain ⟨_, _, _, h⟩ := opReturn_frame v s
  rw [h]

@[simp] theorem opReturn_cfg (v : Value) (s : State) : (opReturn v s).cfg = s.cfg := by
  obtain ⟨_, _, _, h⟩ := opReturn_frame v s
  rw [h]

section
variable {P : ForeignCells → Prop}

theorem Carries.goes {s u : State} (h : ∀ c, P c → fgLine (withForeign c s) = .next (withForeign c u))
    (hu : foreignOf u = foreignOf s := by rfl) (hd : u.dir = s.dir := by rfl) (hc : u.cfg = s.cfg := by rfl) :
    Carries P s :=
  ⟨u, hu, hd, hc, h⟩

theorem Carries.returns {s u : State} {v : Value}
    (h : ∀ c, P c → fgLine (withForeign c s) = .next (opReturn v (withForeign c u)))
    (hu : foreignOf u = foreignOf s := by rfl) (hd : u.dir = s.dir := by rfl) (hc : u.cfg = s.cfg := by rfl) :
    Carries P s :=
  ⟨opReturn v u, (opReturn_foreignOf v u).trans hu, (opReturn_dir v u).trans hd, (opReturn_cfg v u).trans hc,
    fun c hP => (h c hP).trans (congrArg _ (opReturn_withForeign v c u))⟩

theorem dispatchLine_carries (b : Button) (st : List Cont) (s : State) :
    Carries P (placed (.d0 b) st s) := by
  cases b with
  | on =>
    by_cases h : s.err = .rotationFault
    · exact .goes (u := placed .g1 st s) fun _ _ => congrArg _ (if_pos h)
    · exact .goes (u := placed (.s1 .down) (.line .m1 :: st) s) fun _ _ => congrArg _ (if_neg h)
  | off => exact .goes (u := placed (.s1 .up) (.line .m1 :: st) s) fun _ _ => rfl
  | up =>
    by_cases h : s.monoActive = true
    · exact .goes (u := placed (.s1 .up) st s) fun _ _ => congrArg _ (if_pos h)
    · exact .goes (u := placed (.s1 .neutral) st s) fun _ _ => congrArg _ (if_neg h)
  | down =>
    by_cases h : s.monoActive = true
    · exact .goes (u := placed (.s1 .down) st s) fun _ _ => congrArg _ (if_pos h)
    · exact .goes (u := placed (.s1 .neutral) st s) fun _ _ => congrArg _ (if_neg h)
  | set => exact .returns (u := placed (.d0 .set) st s) fun _ _ => rfl
  | unknown => exact .goes (u := placed (.s1 .neutral) st s) fun _ _ => rfl

/-- The lines that neither read the clock nor share cells with the handler carry any foreign cells along. -/
theorem placed_carries {l : Line} (hr : readsClock l = false) (ht : touchesShared l = false)
    (st : List Cont) (s : State) : Carries P (placed l st s) := by
  cases l
  case c5 | q1 | k1b | m1 => cases hr
  case a3 | e3 | u2 | w2 | k2a | g4 | n1 | a4 | k1a | b2 => cases ht
  case b1 => exact .goes (u := placed .b2 st s) fun _ _ => rfl
  case b3 => exact .goes (u := placed .b4 st { s with irqEnabled := true }) fun _ _ => rfl
  case b4 =>
    by_cases h : s.cfg.bootHoming = true
    · exact .goes (u := placed .g1 (.line .b5 :: st) s) fun _ _ => congrArg _ (if_pos h)
    · exact .goes (u := placed .b5 st s) fun _ _ => congrArg _ (if_neg h)
  case b5 => exact .goes (u := placed .c1 st s) fun _ _ => rfl
  case c1 => exact .goes (u := placed .q1 (.line .c2 :: st) s) fun _ _ => rfl
  case c2 =>
    by_cases h : s.irLine = true
    · exact .goes (u := placed .c3 st (irSampled s)) fun _ _ => congrArg _ (if_pos h)
    · exact .goes (u := placed .i0 (.c2 :: st) (irSampled s)) fun _ _ => congrArg _ (if_neg h)
  case c3 =>
    by_cases h : (!s.endSwitchN) = true
    · exact .goes (u := placed .n1 (.line .c4 :: st) (switchSampled s)) fun _ _ => congrArg _ (if_pos h)
    · exact .goes (u := placed .c4 st (switchSampled s)) fun _ _ => congrArg _ (if_neg h)
  case c4 => exact .goes (u := placed .k1 (.line .c5 :: st) s) fun _ _ => rfl
  case s1 d =>
    by_cases h : s.dir = d
    · exact .returns (u := placed (.s1 d) st s) fun _ _ => congrArg _ (if_pos h)
    · exact .goes (u := placed (.s2 d) st s) fun _ _ => congrArg _ (if_neg h)
  case s2 d =>
    cases d with
    | neutral => exact .goes (u := placed (.s3 .neutral) st s) fun _ _ => rfl
    | up => exact .goes (u := placed .u1 (.s2 .up :: st) s) fun _ _ => rfl
    | down => exact .goes (u := placed .w1 (.s2 .down :: st) s) fun _ _ => rfl
  case s3 d => exact .goes (u := placed (.a1 d) st s) fun _ _ => rfl
  case u1 => exact .goes (u := placed (.u2 (errorPresent s)) st s) fun _ _ => rfl
  case u3 e p =>
    exact .returns (u := placed (.u3 e p) st (switchSampled s))
      (v := .bool (e || decide (p ≤ s.cfg.upBound) || !s.endSwitchN)) fun _ _ => rfl
  case w1 => exact .goes (u := placed (.w2 (errorPresent s)) st s) fun _ _ => rfl
  case a1 d =>
    refine .goes (u := placed (.a2 d) st (applyA1 d s)) (fun _ _ => ?_) ?_ ?_ ?_ <;> cases d <;> rfl
  case a2 d =>
    refine .goes (u := placed (.a3 d) st (applyA2 d s)) (fun _ _ => ?_) ?_ ?_ ?_ <;> cases d <;> rfl
  case g1 =>
    by_cases h : s.err = .endSwitchFault
    · exact .returns (u := placed .g1 st s) fun _ _ => congrArg _ (if_pos h)
    · exact .goes (u := placed .g2 st s) fun _ _ => congrArg _ (if_neg h)
  case g2 => exact .goes (u := placed .g3 st { s with err := .none }) fun _ _ => rfl
  case g3 =>
    by_cases h : (!s.endSwitchN) = true
    · exact .returns (u := placed .g3 st (switchSampled s)) fun _ _ => congrArg _ (if_pos h)
    · exact .goes (u := placed .g4 st (switchSampled s)) fun _ _ => congrArg _ (if_neg h)
  case g5 => exact .goes (u := placed (.s1 .up) st s) fun _ _ => rfl
  case k1 =>
    by_cases h : s.dir = .neutral
    · exact .goes (u := placed .k2 st s) fun _ _ => congrArg _ (if_pos h)
    · exact .goes (u := placed .k1a st s) fun _ _ => congrArg _ (if_neg h)
  case k2 =>
    by_cases h : s.dir = .up
    · exact .goes (u := placed .k2a st s) fun _ _ => congrArg _ (if_pos h)
    · exact .goes (u := placed .k3 st s) fun _ _ => congrArg _ (if_neg h)
  case k3 =>
    cases hd : s.dir with
    | neutral =>
      exact .returns (u := placed .k3 st s) fun c _ =>
        congrArg _ (limitLine_of_neutral (s := withForeign c (placed .k3 st s)) hd)
    | up =>
      exact .goes (u := placed .u1 (.k3 :: st) s) fun c _ =>
        congrArg _ (limitLine_of_up (s := withForeign c (placed .k3 st s)) hd)
    | down =>
      exact .goes (u := placed .w1 (.k3 :: st) s) fun c _ =>
        congrArg _ (limitLine_of_down (s := withForeign c (placed .k3 st s)) hd)
  case e1 k => exact .goes (u := placed (.e2 k) st { s with motorUp := false }) fun _ _ => rfl
  case e2 k => exact .goes (u := placed (.e3 k) st { s with motorDown := false }) fun _ _ => rfl
  case e4 k => exact .returns (u := placed (.e4 k) st { s with err := errOfFault k }) fun _ _ => rfl
  case m2 => exact .returns (u := placed .m2 st { s with monoActive := true }) fun _ _ => rfl
  case i0 => exact .goes (u := placed .i1 st { s with ir := some IrFrame.zero }) fun _ _ => rfl
  case i1 =>
    by_cases h : s.irLine = true
    · exact .goes (u := placed .i2 st (irSampled s)) fun _ _ => congrArg _ (if_pos h)
    · exact .goes (u := placed .i1 st (irSampled s)) fun _ _ => congrArg _ (if_neg h)
  case i2 => exact .goes (u := placed .i3 st { s with ir := some { frameOf s with d := 0 } }) fun _ _ => rfl
  case i3 =>
    by_cases h : irTEof s.cfg < (frameOf s).d
    · exact .goes (u := placed .i4 st s) fun _ _ => congrArg _ (if_pos h)
    · by_cases hl : s.irLine = true
      · exact .goes (u := placed .i3 st { irSampled s with ir := some { frameOf s with d := (frameOf s).d + 1 } })
          fun _ _ => congrArg _ ((if_neg h).trans (if_pos hl))
      · exact .goes (u := placed .i4 st (irSampled s)) fun _ _ => congrArg _ ((if_neg h).trans (if_neg hl))
  case i4 =>
    by_cases h : irTEof s.cfg < (frameOf s).d
    · exact .returns (u := placed .i4 st { s with ir := none })
        (v := .frame (frameValue (frameOf s)).1 (frameValue (frameOf s)).2) fun _ _ => congrArg _ (if_pos h)
    · exact .goes (u := placed .i1 st { s with ir := some (shiftIn (irTBit s.cfg) (frameOf s).d (frameOf s)) })
        fun _ _ => congrArg _ (if_neg h)
  case d0 b => exact dispatchLine_carries b st s

theorem fgLine_carries {s : State} (hr : readsClock s.fgAt = false) (ht : touchesShared s.fgAt = false) :
    Carries P s :=
  placed_carries hr ht s.callStack s

end

/-! ### The timer -/

theorem timerStep_eq_withForeign (s : State) :
    timerStep s = withForeign { foreignOf s with tick := s.tick + 1#16 } s := rfl

theorem withForeign_self {s u : State} (h : foreignOf u = foreignOf s) : withForeign (foreignOf s) u = u := by
  rw [← h]; rfl

/-- A timer step commutes with a line that carries the foreign cells along. -/
theorem Carries.timerStep {s : State} (h : Carries (fun _ => True) s) :
    andThen (fgLine s) (fun t => .next (timerStep t)) = fgLine (timerStep s) := by
  obtain ⟨u, hu, -, -, h⟩ := h
  have hs : fgLine s = .next u := (h (foreignOf s) trivial).trans (congrArg _ (withForeign_self hu))
  rw [hs, andThen_next, timerStep_eq_withForeign, timerStep_eq_withForeign, h _ trivial, hu,
    show u.tick = s.tick from congrArg ForeignCells.tick hu]

theorem opReturn_timerStep (v : Value) (s : State) : opReturn v (timerStep s) = timerStep (opReturn v s) := by
  have hu := opReturn_foreignOf v s
  rw [timerStep_eq_withForeign, opReturn_withForeign, timerStep_eq_withForeign, hu,
    show (opReturn v s).tick = s.tick from congrArg ForeignCells.tick hu]

theorem fgLine_g4_in_range {s : State} (hf : s.fgAt = .g4) (hr : posInRange s.cfg s.cfg.downBound = true) :
    fgLine s = .next { s with pos := s.cfg.downBound, fgAt := .g5 } := by
  simp only [fgLine, hf, writePos_in_range hr]
  rfl

theorem fgLine_g4_out_of_range {s : State} (hf : s.fgAt = .g4) (hr : posInRange s.cfg s.cfg.downBound = false) :
    fgLine s = .refused .posOutOfRange := by
  simp only [fgLine, hf, writePos_out_of_range hr, andThen_refused]

theorem fgLine_n1_of_down {s : State} (hf : s.fgAt = .n1) (hd : s.dir = .down) :
    fgLine s = .next (opReturn .unit s) := by
  simp only [fgLine, hf, onEndswitchTriggered_eq, andThen_next, if_pos hd]

theorem fgLine_n1_of_not_down {s : State} (hf : s.fgAt = .n1) (hd : s.dir ≠ .down) :
    fgLine s = .next (opReturn .unit { s with pos := 0 }) := by
  simp only [fgLine, hf, onEndswitchTriggered_eq, andThen_next, if_neg hd]

/-- The lines that share cells with the handler but read no clock. -/
theorem placed_commutes_timerStep {l : Line} (hr : readsClock l = false) (ht : touchesShared l = true)
    (st : List Cont) (s : State) :
    andThen (fgLine (placed l st s)) (fun t => .next (timerStep t)) = fgLine (timerStep (placed l st s)) := by
  cases l
  case a3 d =>
    cases d with
    | neutral => exact congrArg Host.Outcome.next (opReturn_timerStep _ (writeDir .neutral (placed _ st s))).symm
    | up | down => rfl
  case w2 e => exact congrArg Host.Outcome.next (opReturn_timerStep _ (placed _ st s)).symm
  case k2a =>
    by_cases ho : overrun s = true
    · have hs : fgLine (placed .k2a st s) = .next (placed (.e1 .endSwitchFault) (.line .k3 :: st) s) :=
        congrArg _ (if_pos ho)
      rw [hs]
      exact (congrArg Host.Outcome.next (if_pos ho)).symm
    · have hs : fgLine (placed .k2a st s) = .next (placed .k3 st s) := congrArg _ (if_neg ho)
      rw [hs]
      exact (congrArg Host.Outcome.next (if_neg ho)).symm
  case g4 =>
    cases hr : posInRange s.cfg s.cfg.downBound
    · rw [fgLine_g4_out_of_range (s := placed .g4 st s) rfl hr]
      exact (fgLine_g4_out_of_range (s := timerStep (placed .g4 st s)) rfl hr).symm
    · rw [fgLine_g4_in_range (s := placed .g4 st s) rfl hr]
      exact (fgLine_g4_in_range (s := timerStep (placed .g4 st s)) rfl hr).symm
  case n1 =>
    by_cases hd : s.dir = .down
    · rw [fgLine_n1_of_down (s := placed .n1 st s) rfl hd, andThen_next, ← opReturn_timerStep]
      exact (fgLine_n1_of_down (s := timerStep (placed .n1 st s)) rfl hd).symm
    · rw [fgLine_n1_of_not_down (s := placed .n1 st s) rfl hd, andThen_next, ← opReturn_timerStep]
      exact (fgLine_n1_of_not_down (s := timerStep (placed .n1 st s)) rfl hd).symm
  case e3 | u2 | k1a | b2 => rfl
  case a4 => cases hr
  all_goals cases ht

/-- Settles O53: a line that reads no clock carries the counter along, also where it shares cells with the handler. -/
theorem timerCommutesWithLinesThatReadNoClock : Obligations.TimerCommutesWithLinesThatReadNoClock := by
  intro s hr
  cases ht : touchesShared s.fgAt
  · exact (fgLine_carries hr ht).timerStep
  · exact placed_commutes_timerStep hr ht s.callStack s

/-! ### The handler -/

/-- A rotation tick on the foreign cells, none where it is refused (R22, R87). -/
def tickCells (cfg : Config) (dir : Direction) (f : ForeignCells) : Option ForeignCells :=
  match dir with
  | .neutral => some { f with ltt := f.tick }
  | .down => if posInRange cfg (f.pos + 1) = true then some { f with pos := f.pos + 1, ltt := f.tick } else none
  | .up => if posInRange cfg (f.pos - 1) = true then some { f with pos := f.pos - 1, ltt := f.tick } else none

/-- The handler on the foreign cells (R120, R121). -/
def edgeCells (cfg : Config) (dir : Direction) (level : Bool) (f : ForeignCells) : Option ForeignCells :=
  if level = f.lastLevel then some { f with biasReg := !f.biasReg, bias := !f.biasReg }
  else tickCells cfg dir { f with biasReg := !f.biasReg, bias := !f.biasReg, lastLevel := level }

/-- The answer of the interrupt that makes `c` of the foreign cells. -/
def foreignAnswer (c : Option ForeignCells) (s : State) : Result :=
  match c with
  | some c => .next (withForeign c s)
  | none => .refused .posOutOfRange

theorem foreignAnswer_withForeign (c : Option ForeignCells) (f : ForeignCells) (s : State) :
    foreignAnswer c (withForeign f s) = foreignAnswer c s := by
  cases c <;> rfl

theorem onRotationTick_eq_foreignAnswer (s : State) :
    onRotationTick s = foreignAnswer (tickCells s.cfg s.dir (foreignOf s)) s := by
  cases hd : s.dir with
  | neutral => exact onRotationTick_of_neutral hd
  | down =>
    cases hr : posInRange s.cfg (s.pos + 1)
    · have hc : tickCells s.cfg .down (foreignOf s) = none := if_neg (Bool.eq_false_iff.1 hr)
      rw [hc]
      exact onRotationTick_refused ((countTick_of_down hd).trans (writePos_out_of_range hr))
    · have hc : tickCells s.cfg .down (foreignOf s) = some { foreignOf s with pos := s.pos + 1, ltt := s.tick } :=
        if_pos hr
      rw [hc]
      exact onRotationTick_of_down hd hr
  | up =>
    cases hr : posInRange s.cfg (s.pos - 1)
    · have hc : tickCells s.cfg .up (foreignOf s) = none := if_neg (Bool.eq_false_iff.1 hr)
      rw [hc]
      exact onRotationTick_refused ((countTick_of_up hd).trans (writePos_out_of_range hr))
    · have hc : tickCells s.cfg .up (foreignOf s) = some { foreignOf s with pos := s.pos - 1, ltt := s.tick } :=
        if_pos hr
      rw [hc]
      exact onRotationTick_of_up hd hr

/-- The handler reads and writes foreign cells, and reads `dir` and the configuration. -/
theorem onComparatorEdge_eq_foreignAnswer (level : Bool) (s : State) :
    onComparatorEdge level s = foreignAnswer (edgeCells s.cfg s.dir level (foreignOf s)) s := by
  unfold edgeCells
  by_cases hl : level = s.lastLevel
  · rw [if_pos (show level = (foreignOf s).lastLevel from hl)]
    exact onComparatorEdge_same hl
  · rw [if_neg (show ¬ level = (foreignOf s).lastLevel from hl), onComparatorEdge_genuine hl]
    exact (onRotationTick_eq_foreignAnswer _).trans (foreignAnswer_withForeign _
      { foreignOf s with biasReg := !s.biasReg, bias := !s.biasReg, lastLevel := level } s)

theorem tickCells_tick {cfg : Config} {dir : Direction} {f c : ForeignCells} (h : tickCells cfg dir f = some c) :
    c.tick = f.tick := by
  unfold tickCells at h
  split at h
  · cases h; rfl
  · split at h <;> cases h; rfl
  · split at h <;> cases h; rfl

theorem edgeCells_tick {cfg : Config} {dir : Direction} {level : Bool} {f c : ForeignCells}
    (h : edgeCells cfg dir level f = some c) : c.tick = f.tick := by
  unfold edgeCells at h
  split at h
  · cases h; rfl
  · exact (tickCells_tick h).trans rfl

/-- A handler run, which leaves the counter alone, commutes with a line that carries along the other foreign cells. -/
theorem Carries.handlerRun {s : State} (h : Carries (fun c => c.tick = s.tick) s) (level : Bool) :
    andThen (fgLine s) (onComparatorEdge level) = andThen (onComparatorEdge level s) fgLine := by
  obtain ⟨u, hu, hd, hc, h⟩ := h
  have hs : fgLine s = .next u := (h (foreignOf s) rfl).trans (congrArg _ (withForeign_self hu))
  rw [hs, andThen_next, onComparatorEdge_eq_foreignAnswer, onComparatorEdge_eq_foreignAnswer, hu, hd, hc]
  cases hcells : edgeCells s.cfg s.dir level (foreignOf s) with
  | some c => exact (h c (edgeCells_tick hcells)).symm
  | none => rfl

/-- The lines that read a clock but share nothing with the handler: the handler does not write the counter. -/
theorem placed_carries_of_clock {l : Line} (hr : readsClock l = true) (ht : touchesShared l = false)
    (st : List Cont) (s : State) : Carries (fun c => c.tick = s.tick) (placed l st s) := by
  cases l
  case c5 =>
    have hled : ∀ c : ForeignCells, c.tick = s.tick → ledValue (withForeign c (placed .c5 st s)) = ledValue s := by
      intro c hc
      simp only [ledValue, withForeign, placed, now_eq, hc]
    refine .returns (u := placed .c5 st (driveLed s)) (v := .unit) fun c hc => ?_
    have hline : fgLine (withForeign c (placed .c5 st s)) = .next (opReturn .unit (pinWrite .statusLed
        (ledValue (withForeign c (placed .c5 st s))) (withForeign c (placed .c5 st s)))) := rfl
    rw [hline, hled c hc]
    rfl
  case q1 =>
    refine .returns (u := placed .q1 st (regularCheck s)) (v := .unit) (fun c hc => ?_) ?_ ?_ ?_
    · have hline : fgLine (withForeign c (placed .q1 st s)) =
          .next (opReturn .unit (regularCheck (withForeign c (placed .q1 st s)))) := rfl
      have hw : windowOver (withForeign c (placed .q1 st s)) = windowOver s := by
        simp only [windowOver, withForeign, placed, now_eq, hc]
      rw [hline, regularCheck_eq, hw, regularCheck_eq]
      rfl
    all_goals rw [regularCheck_eq]; rfl
  case k1b r =>
    by_cases h : expired s.tick r (stallTicks s.cfg) = true
    · refine .goes (u := placed (.e1 .rotationFault) (.line .k2 :: st) s) fun c hc => congrArg _ (if_pos ?_)
      have hx : expired c.tick r (stallTicks s.cfg) = true := by rw [hc]; exact h
      exact hx
    · refine .goes (u := placed .k2 st s) fun c hc => congrArg _ (if_neg ?_)
      have hx : ¬ expired c.tick r (stallTicks s.cfg) = true := by rw [hc]; exact h
      exact hx
  case m1 =>
    refine .goes (u := placed .m2 st (stampMono s)) fun c hc => ?_
    have hline : fgLine (withForeign c (placed .m1 st s)) =
        .next (withForeign c (placed .m2 st { s with monoTrig := c.tick })) := rfl
    rw [hline, hc]
    rfl
  case a4 => cases ht
  all_goals cases hr

/-- Settles O54: a line that touches nothing shared carries the handler's cells along, also where it reads the clock,
which the handler does not write. -/
theorem handlerCommutesWithLinesThatShareNothing : Obligations.HandlerCommutesWithLinesThatShareNothing := by
  intro s level ht
  cases hr : readsClock s.fgAt
  · exact (fgLine_carries hr ht).handlerRun level
  · exact (placed_carries_of_clock hr ht s.callStack s).handlerRun level

end Sys2Proof.Machine
end

section
namespace Sys2Proof.Machine
open Safety

/-! ## The bits of a frame (R49, R55, R104)

Bit `k` of a frame in order of reception is bit `31 - k` of its word and bit `7 - k % 8` of byte `k / 8` of the buffer;
`shift_in` writes bit `nbits`, and nothing else. -/

/-- Byte `i` of the buffer; the last one past it. -/
def byteAt (b : FrameBuf) (i : Nat) : Byte :=
  match i with
  | 0 => b.b0
  | 1 => b.b1
  | 2 => b.b2
  | _ => b.b3

/-- Bit `k` of the buffer in order of reception. -/
def bitAt (b : FrameBuf) (k : Nat) : Bool := (byteAt b (k / 8)).getLsbD (7 - k % 8)

theorem getLsbD_frameWord (b : FrameBuf) {k : Nat} (hk : k < 32) :
    (frameWord b.b0 b.b1 b.b2 b.b3).getLsbD (31 - k) = bitAt b k := by
  have hlt : k / 8 < 4 := by omega
  unfold bitAt frameWord
  simp only [BitVec.getLsbD_append]
  obtain h | h | h | h : k / 8 = 0 ∨ k / 8 = 1 ∨ k / 8 = 2 ∨ k / 8 = 3 := by omega
  · rw [h, if_neg (by omega), if_neg (by omega), if_neg (by omega)]
    exact congrArg b.b0.getLsbD (by omega)
  · rw [h, if_neg (by omega), if_neg (by omega), if_pos (by omega)]
    exact congrArg b.b1.getLsbD (by omega)
  · rw [h, if_neg (by omega), if_pos (by omega)]
    exact congrArg b.b2.getLsbD (by omega)
  · rw [h, if_pos (by omega)]
    exact congrArg b.b3.getLsbD (by omega)

theorem byteAt_orByte {i j : Nat} (hi : i < 4) (hj : j < 4) (v : Byte) (b : FrameBuf) :
    byteAt (orByte i v b) j = if j = i then byteAt b j ||| v else byteAt b j := by
  interval_cases i <;> interval_cases j <;> rfl

theorem getLsbD_bitMask {bit : Bool} {j m : Nat} (hm : m < 8) :
    (bitMask bit j).getLsbD m = (decide (m = j) && bit) := by
  cases bit with
  | false => simp [bitMask]
  | true =>
    simp only [bitMask, if_true, BitVec.getLsbD_shiftLeft, Bool.and_true, BitVec.getLsbD_one]
    rw [Bool.eq_iff_iff]
    simp
    omega

/-- R104: bit `nbits` of the buffer is written, and no other. -/
theorem bitAt_shiftIn {tBit d k : Nat} {f : IrFrame} (hf : f.nbits < 32) (hk : k < 32) :
    bitAt (shiftIn tBit d f).buf k = (bitAt f.buf k || (decide (k = f.nbits) && decide (tBit < d))) := by
  simp only [shiftIn, if_pos hf, bitAt]
  rw [byteAt_orByte (by omega) (by omega)]
  by_cases hb : k / 8 = f.nbits / 8
  · rw [if_pos hb, BitVec.getLsbD_or, getLsbD_bitMask (by omega)]
    congr 2
    exact decide_eq_decide.2 (by omega)
  · have hne : k ≠ f.nbits := fun h => hb (by rw [h])
    rw [if_neg hb, decide_eq_false hne, Bool.false_and, Bool.or_false]

theorem nbits_shiftIn {tBit d : Nat} {f : IrFrame} (hf : f.nbits < 32) :
    (shiftIn tBit d f).nbits = f.nbits + 1 := by
  simp only [shiftIn, if_pos hf]

theorem shiftIn_of_full {tBit d : Nat} {f : IrFrame} (hf : ¬ f.nbits < 32) : shiftIn tBit d f = f := if_neg hf

/-- R56: what is decoded is the durations before the first over-long one. -/
theorem decodeFrom_eq_foldl (tBit tEof : Nat) (ds : List Nat) (f : IrFrame) :
    decodeFrom tBit tEof ds f = (ds.takeWhile fun d => decide (d ≤ tEof)).foldl (fun f d => shiftIn tBit d f) f := by
  induction ds generalizing f with
  | nil => rfl
  | cons d ds ih =>
    by_cases h : tEof < d
    · rw [decodeFrom, if_pos h, List.takeWhile_cons_of_neg (by simpa using h)]
      rfl
    · rw [decodeFrom, if_neg h, List.takeWhile_cons_of_pos (by simpa using h), ih]
      rfl

theorem nbits_foldl_shiftIn (tBit : Nat) (ds : List Nat) (f : IrFrame) (hf : f.nbits ≤ 32) :
    (ds.foldl (fun f d => shiftIn tBit d f) f).nbits = min 32 (f.nbits + ds.length) := by
  induction ds generalizing f with
  | nil => simp [hf]
  | cons d ds ih =>
    rw [List.foldl_cons, ih _ (shiftIn_nbits_le hf), List.length_cons]
    by_cases h : f.nbits < 32
    · rw [nbits_shiftIn h]; omega
    · rw [shiftIn_of_full h]; omega

/-- R55, R104: each duration is one bit, in order, from bit `nbits` on. -/
theorem bitAt_foldl_shiftIn {k : Nat} (hk : k < 32) (tBit : Nat) (ds : List Nat) (f : IrFrame) (hf : f.nbits ≤ 32) :
    bitAt (ds.foldl (fun f d => shiftIn tBit d f) f).buf k =
      (bitAt f.buf k || (decide (f.nbits ≤ k) &&
        (decide (k - f.nbits < ds.length) && decide (tBit < ds.getD (k - f.nbits) 0)))) := by
  induction ds generalizing f with
  | nil => simp
  | cons d ds ih =>
    rw [List.foldl_cons, ih _ (shiftIn_nbits_le hf)]
    by_cases h : f.nbits < 32
    · rw [nbits_shiftIn h, bitAt_shiftIn h hk, Bool.or_assoc]
      congr 1
      obtain hlt | heq | hgt := Nat.lt_trichotomy k f.nbits
      · have h0 : ¬ k = f.nbits := by omega
        have h1 : ¬ f.nbits + 1 ≤ k := by omega
        have h2 : ¬ f.nbits ≤ k := by omega
        simp only [h0, h1, h2, decide_false, Bool.false_and, Bool.or_false]
      · subst heq
        simp
      · have h0 : ¬ k = f.nbits := by omega
        have h1 : f.nbits + 1 ≤ k := hgt
        have h2 : f.nbits ≤ k := by omega
        have h3 : k - f.nbits = k - (f.nbits + 1) + 1 := by omega
        simp [h0, h1, h2, h3]
    · have h0 : ¬ f.nbits ≤ k := by omega
      simp only [shiftIn_of_full h, h0, decide_false, Bool.false_and]

theorem bitAt_zero (k : Nat) : bitAt IrFrame.zero.buf k = false := by
  unfold bitAt byteAt
  split <;> exact BitVec.getLsbD_zero

/-- The durations `ir_decode` takes (R56). -/
def accepted (cfg : Config) (ds : List Nat) : List Nat := ds.takeWhile fun d => decide (d ≤ irTEof cfg)

theorem irDecode_fst (cfg : Config) (ds : List Nat) :
    (irDecode cfg ds).1 = min 32 (accepted cfg ds).length / 8 := by
  rw [irDecode, frameValue, decodeFrom_eq_foldl, nbits_foldl_shiftIn _ _ _ (Nat.zero_le _)]
  exact congrArg (min 32 · / 8) (Nat.zero_add _)

theorem bitAt_irDecode (cfg : Config) (ds : List Nat) {k : Nat} (hk : k < 32) :
    bitAt (irDecode cfg ds).2 k =
      (decide (k < (accepted cfg ds).length) && decide (irTBit cfg < (accepted cfg ds).getD k 0)) := by
  have hz : IrFrame.zero.nbits = 0 := rfl
  rw [irDecode, frameValue, decodeFrom_eq_foldl, bitAt_foldl_shiftIn hk _ _ _ (Nat.zero_le _), bitAt_zero, hz,
    decide_eq_true (Nat.zero_le k), Bool.false_or, Bool.true_and, Nat.sub_zero]
  rfl

/-- Settles O35: the durations before the first over-long one are the bits, from bit 0 on. -/
theorem irDecodeResult : Obligations.IrDecodeResult := by
  intro s ds bit eof hbit heof hds
  have hacc : accepted s.cfg s.argDs = ds := by rw [accepted, hds, heof]; rfl
  refine ⟨(irDecode s.cfg s.argDs).2, ?_, fun k hk => ?_⟩
  · rw [← hacc, ← irDecode_fst]
    rfl
  · rw [getLsbD_frameWord _ hk, bitAt_irDecode _ _ hk, hacc, hbit]
    rfl

/-! ## The durations of a word (R71) -/

theorem bitDuration_le {cfg : Config} (h : irTBit cfg < irTEof cfg) (b : Bool) : bitDuration cfg b ≤ irTEof cfg := by
  unfold bitDuration
  split <;> omega

theorem frameDurations_le {cfg : Config} (h : irTBit cfg < irTEof cfg) (w : FrameWord) :
    ∀ d ∈ frameDurations cfg w, d ≤ irTEof cfg := by
  intro d hd
  obtain ⟨k, -, rfl⟩ := List.mem_map.1 hd
  exact bitDuration_le h _

/-- A duration exceeds `IR_T_BIT` iff it stands for a 1. -/
theorem lt_bitDuration (cfg : Config) (b : Bool) : decide (irTBit cfg < bitDuration cfg b) = b := by
  cases b <;> simp [bitDuration]

theorem accepted_frameDurations {cfg : Config} (h : irTBit cfg < irTEof cfg) (w : FrameWord) :
    accepted cfg (frameDurations cfg w) = frameDurations cfg w :=
  List.takeWhile_eq_self_iff.2 fun d hd => decide_eq_true (frameDurations_le h w d hd)

theorem frameDurations_getD (cfg : Config) (w : FrameWord) {k : Nat} (hk : k < 32) :
    (frameDurations cfg w).getD k 0 = bitDuration cfg (w.getLsbD (31 - k)) := by
  simp [frameDurations, hk]

theorem frameDurations_length (cfg : Config) (w : FrameWord) : (frameDurations cfg w).length = 32 := by
  simp [frameDurations]

/-- R71: the word of what its durations decode to is the word. -/
theorem frameWord_irDecode_frameDurations {cfg : Config} (h : irTBit cfg < irTEof cfg) (w : FrameWord) {buf : FrameBuf}
    (hbuf : (irDecode cfg (frameDurations cfg w)).2 = buf) : frameWord buf.b0 buf.b1 buf.b2 buf.b3 = w := by
  refine BitVec.eq_of_getLsbD_eq fun i hi => ?_
  have hk : 31 - (31 - i) = i := by omega
  have hlt : 31 - i < 32 := by omega
  have hbit := getLsbD_frameWord buf hlt
  rw [hk] at hbit
  rw [hbit, ← hbuf, bitAt_irDecode _ _ hlt, accepted_frameDurations h, frameDurations_getD _ _ hlt, lt_bitDuration,
    frameDurations_length, hk, decide_eq_true hlt, Bool.true_and]

/-- Settles O36: 32 accepted durations are four bytes, and their bits are the word's. -/
theorem frameDurationsDecodeToTheWord : Obligations.FrameDurationsDecodeToTheWord := by
  intro cfg w h
  have hw := frameWord_irDecode_frameDurations h w rfl
  have hn : (irDecode cfg (frameDurations cfg w)).1 = 4 := by
    rw [irDecode_fst, accepted_frameDurations h, frameDurations_length]
    rfl
  have hb := frameBytes_frameWord (irDecode cfg (frameDurations cfg w)).2.b0 (irDecode cfg (frameDurations cfg w)).2.b1
    (irDecode cfg (frameDurations cfg w)).2.b2 (irDecode cfg (frameDurations cfg w)).2.b3
  rw [hw] at hb
  simp only [frameBytes, List.cons.injEq, and_true] at hb
  obtain ⟨h0, h1, h2, h3⟩ := hb
  rw [h0, h1, h2, h3, ← hn]

end Sys2Proof.Machine
end

section
namespace Sys2Proof.Machine
open Safety

/-! ## The read of a burst (R56, R101, R110)

`scanSamples` is the read from I1 over a list of samples, the present level first; each part of a burst is one equation
about it. -/

/-- Lines I1 to I4 over the samples of the list. -/
def scanSamples (tBit tEof : Nat) (f : IrFrame) (samples : List Bool) : IrScan :=
  irScan tBit tEof false f (samples.headD true) samples.tail

theorem scanLine_eq_scanSamples {s : State} {samples : List Bool} (h : s.irLine :: s.irNext = samples) :
    scanLine s = scanSamples (irTBit s.cfg) (irTEof s.cfg) IrFrame.zero samples := by
  rw [← h]; rfl

section
variable {tBit tEof : Nat}

theorem scanSamples_low (f : IrFrame) (n : Nat) {samples : List Bool} (h : samples ≠ []) :
    scanSamples tBit tEof f (List.replicate n false ++ samples) = scanSamples tBit tEof f samples := by
  obtain ⟨y, ys, rfl⟩ := List.exists_cons_of_ne_nil h
  induction n with
  | zero => rfl
  | succ n ih =>
    rw [List.replicate_succ, List.cons_append, ← ih]
    cases hn : List.replicate n false ++ y :: ys with
    | nil => simp at hn
    | cons z zs => rfl

/-- A high phase within the threshold is one bit. -/
theorem scanSamples_phase (f : IrFrame) {d : Nat} (hd : d ≤ tEof) {samples : List Bool} (h : samples ≠ []) :
    scanSamples tBit tEof f (phaseSamples d ++ samples) =
      scanSamples tBit tEof { shiftIn tBit d f with d := d } samples := by
  obtain ⟨y, ys, rfl⟩ := List.exists_cons_of_ne_nil h
  have hsamples : phaseSamples d ++ y :: ys = true :: (List.replicate d true ++ false :: y :: ys) := by
    simp [phaseSamples]
  rw [hsamples]
  exact irScan_phase tBit tEof d f y ys hd

/-- The samples of a burst: before each high phase a low one of any length (R56). -/
def burstSamples (phases : List (Nat × Nat)) : List Bool :=
  phases.flatMap fun p => List.replicate p.1 false ++ phaseSamples p.2

/-- A burst is received as `ir_decode` would its high phases (R104). -/
theorem scanSamples_burst {phases : List (Nat × Nat)} (hp : ∀ p ∈ phases, p.2 ≤ tEof) {samples : List Bool}
    (h : samples ≠ []) (f : IrFrame) :
    ∃ n, scanSamples tBit tEof f (burstSamples phases ++ samples) =
      scanSamples tBit tEof { decodeFrom tBit tEof (phases.map Prod.snd) f with d := n } samples := by
  induction phases generalizing f with
  | nil => exact ⟨f.d, rfl⟩
  | cons p phases ih =>
    have hd : p.2 ≤ tEof := hp p (List.mem_cons_self ..)
    obtain ⟨n, hn⟩ := ih (fun q hq => hp q (List.mem_cons_of_mem _ hq)) { shiftIn tBit p.2 f with d := p.2 }
    refine ⟨n, ?_⟩
    have hrest : burstSamples phases ++ samples ≠ [] := by simp [h]
    have hcons : burstSamples (p :: phases) ++ samples =
        List.replicate p.1 false ++ (phaseSamples p.2 ++ (burstSamples phases ++ samples)) := by
      simp [burstSamples]
    rw [hcons, scanSamples_low f p.1 (by simp [phaseSamples]), scanSamples_phase f hd hrest, hn,
      decodeFrom_withCount, List.map_cons, decodeFrom, if_neg (Nat.not_lt.2 hd)]

/-- The count of a line that stays high to the end of the listed levels. -/
theorem irScan_stayingHigh (f : IrFrame) (k : Nat) (h : f.d + k ≤ tEof) :
    irScan tBit tEof true f true (List.replicate k true) = ⟨true, { f with d := tEof + 1 }, true, []⟩ := by
  induction k generalizing f with
  | zero => rw [List.replicate_zero, irScan, if_neg (by omega), if_pos rfl]
  | succ k ih =>
    rw [List.replicate_succ, irScan, if_neg (by omega), if_pos rfl, ih { f with d := f.d + 1 } (by dsimp only; omega)]

/-- The count of a high phase past the threshold: the levels after it stay on the port. -/
theorem irScan_overLong (f : IrFrame) (k : Nat) (rest : List Bool) (h : f.d + k = tEof) :
    irScan tBit tEof true f true (List.replicate k true ++ rest) =
      ⟨true, { f with d := tEof + 1 }, rest.headD true, rest.tail⟩ := by
  induction k generalizing f with
  | zero =>
    rw [List.replicate_zero, List.nil_append]
    cases rest with
    | nil => rw [irScan, if_neg (by omega), if_pos rfl]; rfl
    | cons x xs =>
      rw [irScan, if_neg (by omega), if_pos rfl]
      have hd : f.d + 1 = tEof + 1 := by omega
      rw [hd]
      cases xs <;> rw [irScan, if_pos (Nat.lt_succ_self tEof)] <;> rfl
  | succ k ih =>
    rw [List.replicate_succ, List.cons_append, irScan, if_neg (by omega), if_pos rfl,
      ih { f with d := f.d + 1 } (by dsimp only; omega)]

theorem scanSamples_stayingHigh (f : IrFrame) {k : Nat} (h : k ≤ tEof) :
    scanSamples tBit tEof f (List.replicate (k + 1) true) = ⟨true, { f with d := tEof + 1 }, true, []⟩ := by
  cases k with
  | zero => rfl
  | succ k => exact irScan_stayingHigh { f with d := 0 } k (by dsimp only; omega)

theorem scanSamples_overLong (f : IrFrame) (rest : List Bool) :
    scanSamples tBit tEof f (List.replicate (tEof + 2) true ++ rest) =
      ⟨true, { f with d := tEof + 1 }, rest.headD true, rest.tail⟩ := by
  exact irScan_overLong { f with d := 0 } tEof rest (Nat.zero_add _)

/-- A burst ended by samples that end a read returns what `ir_decode` accepts of its high phases. -/
theorem scanSamples_endedBurst {phases : List (Nat × Nat)} (hp : ∀ p ∈ phases, p.2 ≤ tEof) (last : Nat)
    {ending : List Bool} {level : Bool} {rest : List Bool} (hne : ending ≠ [])
    (hend : ∀ f, scanSamples tBit tEof f ending = ⟨true, { f with d := tEof + 1 }, level, rest⟩) :
    scanSamples tBit tEof IrFrame.zero (burstSamples phases ++ (List.replicate last false ++ ending)) =
      ⟨true, { decodeFrom tBit tEof (phases.map Prod.snd) IrFrame.zero with d := tEof + 1 }, level, rest⟩ := by
  obtain ⟨n, hn⟩ := scanSamples_burst (tBit := tBit) hp (samples := List.replicate last false ++ ending)
    (by simp [hne]) IrFrame.zero
  rw [hn, scanSamples_low _ last hne, hend]

end

/-- A read that returns the durations `ds` at a port that then shows `level` and `rest` (R105). -/
theorem execIrReadFrame_of_scanLine {s : State} {ds : List Nat} {n : Nat} {level : Bool} {rest : List Bool}
    (h : scanLine s = ⟨true, { decodeFrom (irTBit s.cfg) (irTEof s.cfg) ds IrFrame.zero with d := n }, level, rest⟩) :
    execIrReadFrame s = .next { s with
      irLine := level, irNext := rest, ir := none, ret := .frame (irDecode s.cfg ds).1 (irDecode s.cfg ds).2 } := by
  rw [execIrReadFrame_of_returned (by rw [h]), readReturned, h]
  rfl

/-- Settles O37: both endings end the read, and the durations before them are decoded. -/
theorem readFrameReturnsTheDecodedBurst : Obligations.ReadFrameReturnsTheDecodedBurst := by
  intro s phases last burst hp hburst
  have hb : burst = burstSamples phases ++ List.replicate last false := hburst
  refine ⟨fun idle hidle hs => ?_, fun rest hs => ?_⟩
  · rw [hb, List.append_assoc] at hs
    refine execIrReadFrame_of_scanLine (n := irTEof s.cfg + 1) ((scanLine_eq_scanSamples hs).trans ?_)
    exact scanSamples_endedBurst hp last (by simp) fun f => scanSamples_stayingHigh f hidle
  · rw [hb, List.append_assoc, List.append_assoc] at hs
    refine execIrReadFrame_of_scanLine (n := irTEof s.cfg + 1) ((scanLine_eq_scanSamples hs).trans ?_)
    exact scanSamples_endedBurst hp last (by simp) fun f => scanSamples_overLong f rest

/-! ### A line that stays low (R108, R110) -/

theorem scanLine_of_low {s : State} (hl : s.irLine = false) (hn : s.irNext = []) :
    scanLine s = ⟨false, IrFrame.zero, false, []⟩ := by
  rw [scanLine, hl, hn, irScan]

theorem readWaiting_of_low {s : State} (hl : s.irLine = false) (hn : s.irNext = []) (conts : List Cont) :
    readWaiting conts s = { s with fgAt := .i1, callStack := conts ++ s.callStack, ir := some IrFrame.zero } := by
  rw [readWaiting, scanLine_of_low hl hn, parkInRead, afterScan, ← hl, ← hn]

/-- With no level listed, sampling changes nothing. -/
theorem irSampled_of_nil {s : State} (hn : s.irNext = []) : irSampled s = s := by
  have h : irSampled s = { s with irLine := s.irNext.headD s.irLine, irNext := s.irNext.tail } := rfl
  rw [h, hn, List.headD_nil, List.tail_nil, ← hn]

theorem fgLine_i1_of_low {s : State} (hf : s.fgAt = .i1) (hl : s.irLine = false) (hn : s.irNext = []) :
    fgLine s = .next s := by
  have hline : fgLine s = .next (if s.irLine = true then goto .i2 (irSampled s) else irSampled s) := by
    simp only [fgLine, hf]; rfl
  rw [hline, hl, irSampled_of_nil hn]
  rfl

/-- Settles O38: the read accepts nothing and waits, and I1 is a line to itself. -/
theorem readOfALowLineNeverReturns : Obligations.ReadOfALowLineNeverReturns := by
  intro s hl hn
  refine ⟨?_, ?_, fun hf n => ?_⟩
  · have hr : (scanLine s).returned = false := by rw [scanLine_of_low hl hn]
    exact (execIrReadFrame_of_waiting hr).trans (congrArg _ (readWaiting_of_low hl hn _))
  · have hr : (scanLine (irSampled s)).returned = false := by
      rw [irSampled_of_nil hn, scanLine_of_low hl hn]
    refine (execLoopIteration_of_waiting hl hr).trans (congrArg _ ?_)
    rw [regularCheck_eq_latchAfterPoll, irSampled_of_nil (s := { s with monoActive := latchAfterPoll s }) hn]
    exact readWaiting_of_low (s := { s with monoActive := latchAfterPoll s }) hl hn _
  · induction n with
    | zero => rfl
    | succ n ih => rw [runLines, fgLine_i1_of_low hf hl hn, andThen_next, ih]

end Sys2Proof.Machine
end

section
namespace Sys2Proof.Machine
open Safety

/-! ## Whole iterations (R125 to R130) -/

theorem exec_loopIteration (s : State) : exec .loopIteration s = execLoopIteration s := rfl

theorem driveLed_eq (s : State) : driveLed s = { s with statusLed := ledValue s } := rfl

theorem driveLed_of_no_error {s : State} (he : s.err = .none) : driveLed s = { s with statusLed := s.monoActive } := by
  rw [driveLed_eq, ledValue_of_no_error he]

theorem endSwitchPolled_of_released {s : State} (hsw : s.endSwitchN = true) : endSwitchPolled s = switchSampled s := by
  rw [endSwitchPolled, if_neg fun h => by rw [hsw] at h; cases h.1]
  rfl

theorem endSwitchPolled_of_engaged {s : State} (hsw : s.endSwitchN = false) (hd : s.dir ≠ .down) :
    endSwitchPolled s = { switchSampled s with pos := 0 } := by
  rw [endSwitchPolled, if_pos ⟨hsw, hd⟩]

/-- In Neutral the periodic check does nothing. -/
theorem loopTail_of_neutral {s : State} (hd : s.dir = .neutral) :
    loopTail s = .next (driveLed (endSwitchPolled s)) := by
  rw [loopTail_eq, checkStopConditions_of_neutral (s := endSwitchPolled s) hd]

/-- The state in which an iteration runs C3 to C5 with the line idle. -/
theorem irSampled_regularCheck (s : State) :
    irSampled (regularCheck s) = { irSampled s with monoActive := latchAfterPoll s } := by
  rw [regularCheck_eq_latchAfterPoll]
  rfl

/-- Settles O45: C4 does nothing, C3 zeroes `pos` on an engaged switch, and C5 shows the error or the latch. -/
theorem idleIterationResult : Obligations.IdleIterationResult := by
  intro s hl hd
  have hpos : (if s.endSwitchN = false ∧ s.dir ≠ .down then 0 else s.pos) = if s.endSwitchN then s.pos else 0 := by
    rw [hd]; cases s.endSwitchN <;> rfl
  have htail := loopTail_of_neutral (s := { irSampled s with monoActive := latchAfterPoll s }) hd
  rw [exec_loopIteration, execLoopIteration_of_idle hl, irSampled_regularCheck, htail, returnsUnit_next, driveLed_eq,
    ← hpos]
  rfl

/-- Moving Up, neither stalled nor past the bound, with the switch engaged: the normal stop (R128). -/
theorem checkStopConditions_of_up_engaged {s : State} (hd : s.dir = .up) (hs : ¬ stalled s = true)
    (ho : ¬ overrun s = true) (hsw : s.endSwitchN = false) :
    checkStopConditions s = applyDirection .neutral (switchSampled s) := by
  rw [checkStopConditions_of_up hd hs ho, if_pos ((upStopCondition_fst_eq_true_iff s).2 (.inr (.inr hsw)))]

/-- Moving Up onto a switch engaged at both samples, C3 to C5 stop normally at position 0. -/
theorem loopTail_of_homing {s : State} (hd : s.dir = .up) (he : s.err = .none) (hup : s.cfg.upBound < 0)
    (hsw : s.endSwitchN = false) (hsw' : (switchSampled s).endSwitchN = false) (hs : ¬ stalled s = true) :
    loopTail s = .next { switchSampled (switchSampled s) with
      pos := 0, dir := .neutral, motorUp := false, motorDown := false, statusLed := s.monoActive } := by
  have ho : ¬ overrun { switchSampled s with pos := 0 } = true := fun h =>
    Int.not_le.2 hup ((overrun_iff { switchSampled s with pos := 0 }).1 h)
  rw [loopTail_eq, endSwitchPolled_of_engaged hsw (by rw [hd]; decide),
    checkStopConditions_of_up_engaged (s := { switchSampled s with pos := 0 }) hd hs ho hsw',
    applyDirection_neutral]
  exact congrArg _ (driveLed_of_no_error he)

/-- Settles O46: C3 has zeroed `pos`, so C4 finds no overrun, and the switch is a normal stop. -/
theorem homingIterationStopsWithoutFault : Obligations.HomingIterationStopsWithoutFault := by
  intro s hl hd he hup hsw hsw' hstall
  have hs : ¬ stalled s = true := fun h => Nat.not_lt.2 hstall ((stalled_iff s).1 h)
  have htail := loopTail_of_homing (s := { irSampled s with monoActive := latchAfterPoll s }) hd he hup hsw hsw' hs
  rw [exec_loopIteration, execLoopIteration_of_idle hl, irSampled_regularCheck, htail]
  rfl

/-! ### An iteration that catches a frame (R126) -/

/-- The state in which the dispatcher finds the loop: the latch polled, the frame read. -/
theorem readReturned_of_scanLine {s : State} {f : IrFrame} {level : Bool} {rest : List Bool}
    (h : scanLine (irSampled s) = ⟨true, f, level, rest⟩) :
    readReturned (irSampled (regularCheck s)) =
      { s with monoActive := latchAfterPoll s, irLine := level, irNext := rest, ir := none } := by
  rw [readReturned, scanLine_regularCheck, h, regularCheck_eq_latchAfterPoll]
  rfl

/-- R126: an iteration that reads the frame `f` dispatches its button, and C3 to C5 follow. -/
theorem exec_loopIteration_of_scanLine {s t u : State} {f : IrFrame} {level : Bool} {rest : List Bool} {b : Button}
    (hl : s.irLine = false) (h : scanLine (irSampled s) = ⟨true, f, level, rest⟩)
    (hb : buttonOf s.cfg (frameValue f).1 (frameValue f).2 = b)
    (hd : dispatch b { s with monoActive := latchAfterPoll s, irLine := level, irNext := rest, ir := none } = .next t)
    (ht : loopTail t = .next u) : exec .loopIteration s = .next { u with ret := .unit } := by
  have hbutton : readButton (irSampled s) = b := by rw [readButton, h]; exact hb
  rw [exec_loopIteration, execLoopIteration_of_returned hl (by rw [h]), hbutton, readReturned_of_scanLine h, hd,
    andThen_next, ht, returnsUnit_next]

/-- Unknown stops a moving screen (R117). -/
theorem dispatch_unknown_of_moving {s : State} (hd : s.dir ≠ .neutral) :
    dispatch .unknown s = .next { s with dir := .neutral, motorUp := false, motorDown := false } := by
  have hunknown : dispatch .unknown s = .next (setDirection .neutral s) := rfl
  rw [hunknown, setDirection_neutral, if_neg hd, if_neg hd]

/-- In Neutral with no error and the switch released, C3 to C5 sample the switch and drive the LED. -/
theorem loopTail_of_resting {s : State} (hd : s.dir = .neutral) (he : s.err = .none) (hsw : s.endSwitchN = true) :
    loopTail s = .next { switchSampled s with statusLed := s.monoActive } := by
  rw [loopTail_of_neutral hd, endSwitchPolled_of_released hsw]
  exact congrArg _ (driveLed_of_no_error he)

/-- A frame without bits is Unknown (R106). -/
theorem buttonOf_of_no_bits {f : IrFrame} (h : f.nbits = 0) (cfg : Config) :
    buttonOf cfg (frameValue f).1 (frameValue f).2 = .unknown := by
  have hlen : ¬ f.nbits / 8 = 4 := by rw [h]; decide
  exact if_neg hlen

/-- Settles O47: the line is idle at the first sample of the read, which so returns no byte: Unknown. -/
theorem noisePulseStopsTheScreen : Obligations.NoisePulseStopsTheScreen := by
  intro s hl hn hsw he hd
  have hscan : scanLine (irSampled s) = ⟨true, { IrFrame.zero with d := irTEof s.cfg + 1 }, true, []⟩ := by
    rw [irSampled, hn]; rfl
  exact exec_loopIteration_of_scanLine hl hscan (buttonOf_of_no_bits rfl s.cfg) (dispatch_unknown_of_moving hd)
    (loopTail_of_resting rfl he hsw)

/-- The read of a word's waveform (R71, R101). -/
theorem scanLine_wave {s : State} {ds : List Nat} (hds : ∀ d ∈ ds, d ≤ irTEof s.cfg)
    (h : s.irNext = waveSamples ds) :
    ∃ n, scanLine (irSampled s) =
      ⟨true, { decodeFrom (irTBit s.cfg) (irTEof s.cfg) ds IrFrame.zero with d := n }, true, []⟩ := by
  refine irScan_wave (irTBit s.cfg) (irTEof s.cfg) ds hds IrFrame.zero _ _ ?_
  have hne : s.irNext ≠ [] := by rw [h, waveSamples]; exact List.append_ne_nil_of_right_ne_nil _ (by decide)
  obtain ⟨x, xs, hx⟩ := List.exists_cons_of_ne_nil hne
  rw [irSampled, ← h, hx]
  rfl

/-- R106, R107: the durations of a word are read as the button its frame is known by. -/
theorem buttonOf_irDecode_frameDurations {cfg : Config} (h : irTBit cfg < irTEof cfg) (w : FrameWord) :
    buttonOf cfg (irDecode cfg (frameDurations cfg w)).1 (irDecode cfg (frameDurations cfg w)).2 =
      lookupWord cfg w cfg.buttonTable := by
  rw [frameDurationsDecodeToTheWord cfg w h, buttonOf, if_pos rfl, decodeButton_eq_lookupWord, frameWord_frameBytes]

/-- Just stamped, moving Down above its bound with no error: C3 to C5 sample the switch and drive the LED. -/
theorem loopTail_of_lowering {s : State} (hd : s.dir = .down) (he : s.err = .none) (hp : s.pos < s.cfg.downBound)
    (hsw : s.endSwitchN = true) (hltt : s.ltt = s.tick) :
    loopTail s = .next { switchSampled s with statusLed := s.monoActive } := by
  have hs : ¬ stalled s = true := by
    rw [stalled_iff, hltt, BitVec.sub_self]
    exact Nat.not_lt_zero _
  rw [loopTail_eq, endSwitchPolled_of_released hsw, checkStopConditions_of_down (s := switchSampled s) hd hs,
    downStopCondition_eq_false (s := switchSampled s) he hp]
  exact congrArg _ (driveLed_of_no_error he)

/-- On with no error and the screen clear to lower (R112). -/
theorem dispatch_on_of_clear {s : State} (hd : s.dir ≠ .down) (he : s.err = .none) (hp : s.pos < s.cfg.downBound) :
    dispatch .on s = .next { s with
      dir := .down, motorUp := false, motorDown := true, ltt := s.tick, monoTrig := s.tick, monoActive := true } := by
  have hon : dispatch .on s = commandOn s := rfl
  rw [hon, commandOn_of_no_rotationFault (by rw [he]; decide),
    setDirection_down_of_clear hd (downStopCondition_eq_false he hp), applyDirection_down]
  rfl

/-- Settles O48: the waveform decodes to the word of On, which lowers the idle screen; C4 finds nothing to stop it. -/
theorem pressOnLowersTheScreen : Obligations.PressOnLowersTheScreen := by
  intro s h0 h1 ht hT hl hn hd he hp hsw
  obtain ⟨n, hscan⟩ := scanLine_wave (frameDurations_le hT _) hn
  have hon : lookupWord s.cfg 0xE0D504FB#32 s.cfg.buttonTable = .on := by
    rw [ht, lookupWord_sourceButtonTable _ h0 h1, if_pos rfl]
  have hdown : s.dir ≠ .down := by rw [hd]; decide
  have hbutton := (buttonOf_irDecode_frameDurations hT 0xE0D504FB#32).trans hon
  exact exec_loopIteration_of_scanLine hl hscan hbutton (dispatch_on_of_clear hdown he hp)
    (loopTail_of_lowering rfl he hp hsw rfl)

end Sys2Proof.Machine
end
